-- ==== Sys2Proof/Word.lean ====
section
/-! DEFINITION. The byte of the host link and of the quay line payloads (R198, R63). -/

namespace Sys2Proof

/-- One byte of a link record or of a line payload. -/
abbrev Byte := BitVec 8

end Sys2Proof
end

