-- ==== Sys2Proof/Config.lean ====
section
/-! DEFINITION. What is fixed outside the running machine: the six configuration sections as data (R7, R23, R43, R44,
R138, R191), the part's fixed figures, and the free values (values the spec leaves unstated). -/

namespace Sys2Proof

/-- A direction or side of the rail (R197: LOW 0, HIGH 1). -/
inductive Dir where
  | low
  | high
  deriving DecidableEq, Repr

/-- The RAIL section (R138). -/
structure RailCfg where
  n : Nat
  railMin : Nat
  railMax : Nat
  half : Nat
  gap : Nat
  countsPerCm : Nat
  homeCm : Nat
  homeDir : Dir
  homeTol : Nat
  homeSearch : Nat
  creepZone : Nat
  arrivalTol : Nat
  stallTime : Nat
  clearance : Nat
  deriving DecidableEq, Repr

/-- The SCALE section (R7): span S, configured zero Z, tolerance, limit, belt stall time. -/
structure ScaleCfg where
  span : Nat
  zero : Nat
  zeroTol : Nat
  zeroLimit : Nat
  beltStall : Nat
  deriving DecidableEq, Repr

/-- The FEED section (R23). -/
structure FeedCfg where
  table : List Nat
  accMin : Nat
  accMax : Nat
  accStart : Nat
  stepUp : Nat
  stepDown : Nat
  leak : Int
  window : Nat
  band : Nat
  surgeGrams : Nat
  surgeStep : Nat
  surgeHold : Nat
  fMin : Nat
  fMax : Nat
  dribbleKg : Nat
  spillKg : Nat
  dribbleIx : Nat
  settleTime : Nat
  warnIx : Nat
  highIx : Nat
  deriving DecidableEq, Repr

/-- The DUST section (R43). `enabled` has one entry for each of D1 to D4. -/
structure DustCfg where
  enabled : List Bool
  warnOff : Nat
  warnOn : Nat
  highOff : Nat
  highOn : Nat
  tripOn : Nat
  sleepPeriod : Nat
  wakeWindow : Nat
  radius : Nat
  deriving DecidableEq, Repr

/-- The LINES section (R191). `filters`: belt pulse, home marker, PROX_LO, PROX_HI, raised limit, lowered limit,
P1, P2, P3. `permits`: the eight entries of the permit table. `spoutTimeout` is in units of 100 ms. -/
structure LinesCfg where
  filters : List Nat
  permits : List Bool
  spoutTimeout : Nat
  attendance : Nat
  peerTimeout : Nat
  deriving DecidableEq, Repr

/-- One pattern: its length in steps and its steps, step 0 first (R44). -/
structure Pattern where
  len : Nat
  steps : List Bool
  deriving DecidableEq, Repr

/-- The PATTERNS section (R44): horn and lamp pattern for CLEAR, WARN, HIGH, NEAR_TRIP and TRIP in turn. -/
structure PatternsCfg where
  horn : List Pattern
  lamp : List Pattern
  deriving DecidableEq, Repr

/-- The sections accepted so far; each is absent until its SET CONFIG is accepted (R191, R193). -/
structure Sections where
  rail : Option RailCfg
  scale : Option ScaleCfg
  feed : Option FeedCfg
  dust : Option DustCfg
  lines : Option LinesCfg
  patterns : Option PatternsCfg
  deriving DecidableEq, Repr

/-- FREE VALUE (log 13). The code byte answered to a link frame of no bytes: R189 refuses the frame with BAD_LENGTH
and R198 puts "code of the command answered" first, but no code was clocked. -/
opaque Config.noByteCode : Nat → Byte

/-- FREE VALUE (log 14). The code of a board phase (0 OPEN, 1 CLAIMED, 2 DONE) in READ TRANCHE: R197 lists no code for it. -/
opaque Config.boardPhaseCode : Nat → Byte

/-- FREE VALUE (log 15). The number named beside check 1 in the refusal of SEAL PLAN: R101 has it name the hold or
tranche at which the check failed, and check 1 fails at none. -/
opaque Config.sealCountId : Nat → Byte

/-- FREE VALUE (log 16). The four bytes of a board total above 4,294,967,295 kg in READ SUMMARY: no width is stated. -/
opaque Config.wideTotal : Nat → Nat

end Sys2Proof
end

