-- ==== Sys2Proof/Syntax.lean ====
section
/-! DEFINITION. The commands the block takes: one constructor of `Instr` per row of spec/opcode_table.json, with the
operand types they carry. -/

namespace Sys2Proof

/-- The three strap pins as sampled at the release of RESET (R193). -/
structure Straps where
  strap0 : Bool
  strap1 : Bool
  strap2 : Bool
  deriving DecidableEq, Repr

/-- The nine filtered field inputs, true for active (R5, R140, R142, R155, R161). -/
structure Pins where
  belt : Bool
  home : Bool
  proxLo : Bool
  proxHi : Bool
  raised : Bool
  lowered : Bool
  p1 : Bool
  p2 : Bool
  p3 : Bool
  deriving DecidableEq, Repr

/-- What one encoder reading shows (R139): motion toward higher or lower positions, or a change of both inputs, which
shows no direction. -/
inductive Motion where
  | up
  | down
  | both
  deriving DecidableEq, Repr

/-- The two spout limit switches (R155). -/
inductive Limit where
  | raised
  | lowered
  deriving DecidableEq, Repr

/-- The three permit contacts (R161). -/
inductive Contact where
  | p1
  | p2
  | p3
  deriving DecidableEq, Repr

/-- A frame read whole from the line (R63): key, payload bytes and the 16 check bits read after them. -/
structure RxFrame where
  key : BitVec 7
  payload : List Byte
  check : BitVec 16
  deriving DecidableEq, Repr

/-- What FRAME_HEARD reports: the own frame on the line read back whole (R68), or another sender's frame (R69). -/
inductive Heard where
  | ownEcho
  | other (f : RxFrame)
  deriving DecidableEq, Repr

/-- The two receive errors of R69. -/
inductive RxError where
  | lengthOver16
  | badCheck
  deriving DecidableEq, Repr

/-- The commands. The operand `rest` of a host command is every byte clocked after the command code byte: the field
length, the fields and any padding (R189, R198). -/
inductive Instr where
  | reset (straps : Straps) (pins : Pins)
  | noOperationFrame (rest : List Byte)
  | unknownCommand (code : Byte) (rest : List Byte)
  | linkFrameDiscarded (clocked : Nat)
  | setConfig (rest : List Byte)
  | run (rest : List Byte)
  | setEvents (rest : List Byte)
  | readEvents (rest : List Byte)
  | clearEvents (rest : List Byte)
  | readStatus (rest : List Byte)
  | zeroScale (rest : List Byte)
  | readSnapshot (rest : List Byte)
  | setFeed (rest : List Byte)
  | ackDust (rest : List Byte)
  | forgetPeer (rest : List Byte)
  | readPeer (rest : List Byte)
  | loadPlan (rest : List Byte)
  | addHold (rest : List Byte)
  | addTranche (rest : List Byte)
  | sealPlan (rest : List Byte)
  | closePlan (rest : List Byte)
  | readTranche (rest : List Byte)
  | takeover (rest : List Byte)
  | home (rest : List Byte)
  | mooringShift (rest : List Byte)
  | start (rest : List Byte)
  | stop (rest : List Byte)
  | halt (rest : List Byte)
  | clearHalt (rest : List Byte)
  | withdraw (rest : List Byte)
  | keep (rest : List Byte)
  | readBill (rest : List Byte)
  | readSummary (rest : List Byte)
  | intervalEnd
  | windowEnd
  | calibrationComplete
  | pourOpen
  | pourClose
  | conversionEnd (level : Int)
  | filteredBeltPulse (active : Bool)
  | beltStallTimeout
  | wakeWindowEnd
  | sleepPeriodEnd
  | warmUpComplete
  | patternStep
  | dustRepeat
  | secondTick
  | lineWindowEnd
  | beaconTick
  | noteTick
  | idleGap
  | arbitrationLost
  | frameAbandoned
  | frameHeard (h : Heard)
  | receiveError (e : RxError)
  | peerTimeout (station : Fin 8)
  | catchUpEnd
  | encoderEdge (m : Motion)
  | homeMarkerEdge (active : Bool)
  | proxSwitchActive (side : Dir) (active : Bool)
  | travelStall
  | restTimeEnd
  | moveHoldExpiry
  | limitSwitchChange (l : Limit) (active : Bool)
  | spoutTimeout
  | permitChange (c : Contact) (active : Bool)
  | attendanceLapse
  | settleExpiry
  | frameOfNoBytes
  deriving DecidableEq, Repr

end Sys2Proof
end

