-- ==== Sys2Proof/Machine/State.lean ====
section
/-! DEFINITION. Everything the spec gives the part, as plain data, and the value of each piece after reset. Values the
spec defines as functions of others (gate code, levels, intervals, outputs) are derived in Machine/Ops.lean and after. -/

namespace Sys2Proof.Machine

/-- Why a step stops. -/
inductive Fault where
  /-- Raised by UNKNOWN_COMMAND with a code that is 0 or names a command, and by FRAME_HEARD with more than 31 payload
  bytes: the term stands for no event the outside can produce (log 27). Safe. -/
  | illFormed
  deriving DecidableEq, Repr

/-- Why a command has no meaning. -/
inductive Refusal where
  /-- Raised by an arm of `exec` that has no meaning yet. Safe. No arm raises it. -/
  | notModelled (mnemonic : String)
  deriving DecidableEq, Repr

/-! ### Names of levels, states and causes -/

/-- A dust level as reported on the line; a station level; an average level never takes TRIP (R50, R52, R54). -/
inductive DustLevel where
  | clear
  | warn
  | high
  | trip
  deriving DecidableEq, Repr

/-- A head level (R52). -/
inductive HeadLevel where
  | clear
  | warn
  | high
  | trip
  | fault
  deriving DecidableEq, Repr

/-- The exposure (R55). -/
inductive Exposure where
  | clear
  | warn
  | high
  | nearTrip
  | trip
  deriving DecidableEq, Repr

/-- The eight cycle states (R158). -/
inductive CycleState where
  | idle
  | claiming
  | positioning
  | pouring
  | paused
  | settling
  | withdrawing
  | halted
  deriving DecidableEq, Repr

/-- Outcome of a CLOSE frame and of an end request (R108, R128). -/
inductive CloseOutcome where
  | done
  | released
  deriving DecidableEq, Repr

/-- Outcome of a pour (R182). -/
inductive PourOutcome where
  | done
  | withdrawn
  | yielded
  | takenOver
  | hatchLost
  deriving DecidableEq, Repr

/-- The halt causes in the order of their codes (R168, R197). -/
inductive HaltCause where
  | ownTrip
  | beltStall
  | spoutJam
  | spoutDrift
  | travelFault
  | hostLapse
  | hostHalt
  | stationClash
  | restartLowered
  deriving DecidableEq, Repr

/-- Feed modes (section 2.2). -/
inductive FeedMode where
  | shut
  | regulate
  | dribble
  deriving DecidableEq, Repr

/-- Presence of a peer (section 5.3). -/
inductive Presence where
  | unheard
  | live
  | silent
  | retired
  deriving DecidableEq, Repr

/-- Plan states (section 6.1). -/
inductive PlanState where
  | none
  | building
  | learning
  | ready
  deriving DecidableEq, Repr

/-- Claim states (R118). -/
inductive ClaimState where
  | none
  | pending
  | held
  | closing
  deriving DecidableEq, Repr

/-- Result of a selection attempt (R119). -/
inductive Selection where
  | chosen (tranche : Nat)
  | notAgreed
  | degraded
  | dust
  | unreferenced
  | billFull
  | noneEligible
  deriving DecidableEq, Repr

/-- Travel states (section 8.5). -/
inductive TravelState where
  | stopped
  | waiting
  | reserving
  | moving
  | creeping
  | faulted
  deriving DecidableEq, Repr

/-- Travel fault causes (R197). -/
inductive TravelFault where
  | stall
  | prox
  | spanExit
  | overshoot
  deriving DecidableEq, Repr

/-- The drive output (section 8.5). -/
inductive Drive where
  | off
  | creep (dir : Dir)
  | fast (dir : Dir)
  deriving DecidableEq, Repr

/-- Spout states (section 8.8). -/
inductive SpoutState where
  | raised
  | lowering
  | lowered
  | raising
  | jammed
  deriving DecidableEq, Repr

/-- Jam causes (R153, R155). -/
inductive JamCause where
  | timeout
  | drift
  deriving DecidableEq, Repr

/-- Sampling states (section 3.2). -/
inductive Sampling where
  | sleeping
  | waking
  | warming
  | continuous
  | draining
  deriving DecidableEq, Repr

/-- Last zero result (R18). -/
inductive ZeroResult where
  | none
  | ok
  | noBelt
  | range
  deriving DecidableEq, Repr

/-- Settle outcome (R158). -/
inductive SettleOutcome where
  | done
  | withdrawn
  deriving DecidableEq, Repr

/-- The 24 event flags, in the order of their bits (R194). -/
inductive Event where
  | claimWon
  | claimLost
  | yielded
  | takenOver
  | pourClosed
  | billLow
  | billFull
  | paused
  | halted
  | dustChange
  | dustTrip
  | headFault
  | travelFault
  | spoutJam
  | encoderSlip
  | peerSilent
  | peerBack
  | planMismatch
  | planReady
  | lineDegraded
  | stationClash
  | orderFault
  | scaleFlag
  | zeroDone
  deriving DecidableEq, Repr

/-- Response statuses (R190). -/
inductive Status where
  | done
  | doneClamped
  | refused
  deriving DecidableEq, Repr

/-- Refusal reasons of host commands (R190). -/
inductive Reason where
  | none
  | unknown
  | badLength
  | badValue
  | state
  | notRunning
  | configClosed
  | missing
  | planLoaded
  | planFull
  | noPlan
  | notSilent
  | billEmpty
  deriving DecidableEq, Repr

/-- The converter's inputs (section 1.1): the load cell L and the heads D1 to D4 (0 to 3). -/
inductive AdcInput where
  | load
  | head (k : Fin 4)
  deriving DecidableEq, Repr

/-- What the receiver is doing (R62, R69). -/
inductive Receiver where
  | hunting
  | awaitingGap
  | lineIdle
  | inFrame
  deriving DecidableEq, Repr

/-! ### Records -/

/-- A stretch of rail, both ends included. -/
structure Stretch where
  lo : Nat
  hi : Nat
  deriving DecidableEq, Repr

/-- The frames of the quay line and their fields (section 4.2). -/
inductive Frame where
  | dust (level : DustLevel) (trips : Nat) (referenced : Bool) (pos : Nat)
  | claim (plan tranche seq hold : Nat)
  | close (plan tranche seq : Nat) (outcome : CloseOutcome) (behalf settled : Nat)
  | span (lo hi : Nat)
  | tally (plan tranche seq live : Nat)
  | beacon (state : CycleState) (referenced halted auto degraded : Bool) (pos lo hi plan check tranche seq : Nat)
  | note (plan tranche : Nat) (done : Bool) (seq settled : Nat)
  deriving DecidableEq, Repr

/-- A queued frame (R64, R74 to R77): `onLine` holds the content being sent while the frame is on the line, `renewed`
says that the entry took new content meanwhile, `withdrawn` that its owner asked for it back. -/
structure TxEntry where
  frame : Frame
  onLine : Option Frame
  renewed : Bool
  withdrawn : Bool
  deriving DecidableEq, Repr

/-- A response record (R198): code answered, status, reason, result bytes. -/
structure Response where
  code : Byte
  status : Status
  reason : Reason
  result : List Byte
  deriving DecidableEq, Repr

/-- The interval flags of R9. -/
structure IntervalFlags where
  overrange : Bool
  underzero : Bool
  pulseSat : Bool
  deriving DecidableEq, Repr

/-- The quality flags of a pour (R16). -/
structure Quality where
  overrange : Bool
  underzero : Bool
  pulseSat : Bool
  saturated : Bool
  deriving DecidableEq, Repr

/-- The snapshot record (R20). -/
structure Snapshot where
  load : Nat
  pulses : Nat
  grams : Nat
  fine : Nat
  openGrams : Nat
  stray : Nat
  total : Nat
  flags : IntervalFlags
  saturated : Bool
  acc : Nat
  gate : Nat
  mode : FeedMode
  exposure : Exposure
  pos : Nat
  deriving DecidableEq, Repr

/-- One dust head (section 3.3); its history is oldest first. -/
structure Head where
  power : Bool
  history : List Nat
  avgLevel : DustLevel
  latch : Bool
  fault : Bool
  faultCount : Nat
  deriving DecidableEq, Repr

/-- One Peer Table entry (R81). -/
structure Peer where
  presence : Presence
  referenced : Bool
  pos : Option Nat
  span : Option Stretch
  cycle : Option CycleState
  halted : Bool
  auto : Bool
  degraded : Bool
  planId : Option (Nat × Nat)
  claim : Option (Nat × Nat)
  dust : Option DustLevel
  trips : Nat
  age : Option Nat
  mismatch : Bool
  orderFault : Bool
  deriving DecidableEq, Repr

/-- The plan header (R98). -/
structure PlanHeader where
  number : Nat
  vesselRef : Nat
  trimLimit : Nat
  holdCount : Nat
  trancheCount : Nat
  deriving DecidableEq, Repr

/-- A hold (R99). -/
structure Hold where
  number : Nat
  offset : Int
  half : Nat
  lever : Int
  deriving DecidableEq, Repr

/-- The phase of a board record. A CLAIMED record has its claimant and live kg; no other has them (R105). -/
inductive BoardPhase where
  | vacant
  | claimed (claimant live : Nat)
  | done
  deriving DecidableEq, Repr

/-- A tranche of the plan with its board record (R100, R105). The phase OPEN is `vacant`. -/
structure Tranche where
  id : Nat
  hold : Nat
  target : Nat
  pred : Nat
  phase : BoardPhase
  seq : Nat
  settled : Nat
  deriving DecidableEq, Repr

/-- The own claim record outside NONE (R118). `closedKg`: the final kg of the pour's closing report, once made (R128).
`closeFrame`: the CLOSE handed to the QLI; `resend`: it was dropped and is handed over again at every beacon tick (R129). -/
structure ClaimRec where
  plan : Nat
  tranche : Nat
  hold : Nat
  seq : Nat
  withdrawMark : Bool
  poured : Bool
  endRequest : Option CloseOutcome
  closedKg : Option Nat
  closeFrame : Option Frame
  resend : Bool
  deriving DecidableEq, Repr

/-- The claim identity a bill names (R179). -/
structure BillIdentity where
  plan : Nat
  tranche : Nat
  hold : Nat
  seq : Nat
  deriving DecidableEq, Repr

/-- A stored bill (R181). -/
structure Bill where
  number : Nat
  ident : BillIdentity
  openedAt : Nat
  closedAt : Nat
  netGrams : Nat
  finalKg : Nat
  outcome : PourOutcome
  lastHalt : Option HaltCause
  quality : Quality
  surge : Bool
  trimPaused : Bool
  dustPaused : Bool
  deriving DecidableEq, Repr

/-- The closing report of a pour (R14). -/
structure ClosingReport where
  netGrams : Nat
  finalKg : Nat
  outcome : PourOutcome
  quality : Quality
  closedAt : Nat
  deriving DecidableEq, Repr

/-- One hold of a plan summary: number, board total kg, own total kg (R186). -/
structure SummaryHold where
  number : Nat
  boardKg : Nat
  ownKg : Nat
  deriving DecidableEq, Repr

/-- The plan summary (R186). -/
structure Summary where
  number : Nat
  check : Nat
  closedAt : Nat
  holds : List SummaryHold
  entries : Nat
  stray : Nat
  deriving DecidableEq, Repr

/-! ### The blocks -/

/-- Host Link (R189, R194). `miso`: the bytes shifted out in the last link frame. -/
structure Link where
  buf : Option Response
  miso : List Byte
  flags : BitVec 24
  enables : BitVec 24
  deriving DecidableEq, Repr

/-- Converter and arbiter (R2, R3). -/
structure Converter where
  requests : List AdcInput
  busy : Option AdcInput
  deriving DecidableEq, Repr

/-- Scale Unit (chapter 1). -/
structure Scale where
  load : Nat
  overrange : Bool
  pulses : Nat
  pulseSat : Bool
  prevFlags : IntervalFlags
  beltMoving : Bool
  beltMs : Option Nat
  workingZero : Option Nat
  fine : Nat
  openGrams : Nat
  stray : Nat
  total : Nat
  closed : Nat
  pourOpen : Bool
  pendingOpen : Bool
  pendingClose : Option PourOutcome
  quality : Quality
  saturated : Bool
  calRunning : Bool
  calSkip : Bool
  calSum : Nat
  calCount : Nat
  lastZero : ZeroResult
  snapshot : Option Snapshot
  deriving DecidableEq, Repr

/-- Feed Regulator (chapter 2). `lastEval`: T, U and Lo of the last evaluation. -/
structure Feed where
  mode : FeedMode
  acc : Nat
  count : Nat
  mass : Nat
  lastEval : Option (Nat × Nat × Nat)
  setpoint : Option Nat
  staged : Option Nat
  holdoff : Nat
  share : Option Nat
  surge : Bool
  deriving DecidableEq, Repr

/-- Dust Monitor (chapter 3). -/
structure Dust where
  sampling : Sampling
  wakeMs : Option Nat
  sleepMs : Option Nat
  warmMs : Option Nat
  heads : List Head
  exposure : Exposure
  repeatCount : Nat
  clearRepeats : Nat
  hornPos : Nat
  lampPos : Nat
  silenced : Bool
  deriving DecidableEq, Repr

/-- Quay Line Interface (chapter 4). -/
structure Qli where
  queue : List TxEntry
  rx : Receiver
  clash : Bool
  degraded : Bool
  winErrors : Nat
  lineMs : Nat
  rxErrors : Nat
  foreign : Nat
  txErr : Nat
  txDrop : Nat
  deriving DecidableEq, Repr

/-- Plan Store and Tranche Board (chapter 6). -/
structure Plan where
  state : PlanState
  header : Option PlanHeader
  holds : List Hold
  tranches : List Tranche
  check : Option Nat
  catchUp : Option Nat
  cursor : Nat
  deriving DecidableEq, Repr

/-- Claim Unit (chapter 7). -/
structure Claim where
  state : ClaimState
  own : Option ClaimRec
  selection : Option Selection
  mProj : Option Int
  mLive : Option Int
  trim : Bool
  deriving DecidableEq, Repr

/-- Travel Unit (chapter 8). `moveSpan` is the move span or, while homing, the homing span. `correcting`: an overshoot
awaits rest before its correction (R147). -/
structure Travel where
  count : Nat
  referenced : Bool
  state : TravelState
  homing : Bool
  searchStart : Option Nat
  drive : Drive
  moveSpan : Option Stretch
  targetHold : Option Nat
  target : Option Nat
  approach : Option Dir
  held : Bool
  holdTicks : Nat
  overshoots : Nat
  correcting : Bool
  fault : Option TravelFault
  stallMs : Option Nat
  restMs : Option Nat
  deriving DecidableEq, Repr

/-- Spout Unit (chapter 8). -/
structure Spout where
  state : SpoutState
  jam : Option JamCause
  ms : Option Nat
  deriving DecidableEq, Repr

/-- Cycle Controller (chapter 9). -/
structure Cycle where
  state : CycleState
  auto : Bool
  causes : List HaltCause
  haltCause : Option HaltCause
  lapseAnswered : Bool
  withdrawMark : Bool
  ending : Bool
  settleOutcome : Option SettleOutcome
  settleMs : Option Nat
  attendMs : Option Nat
  dustPaused : Bool
  trimPaused : Bool
  lastHalt : Option HaltCause
  deriving DecidableEq, Repr

/-- Bill Log (chapter 10). `totals`: own total kg of holds 1 to 12. -/
structure Bills where
  stored : List Bill
  reserved : Bool
  identity : Option BillIdentity
  openedAt : Option Nat
  seq : Nat
  totals : List Nat
  entries : Nat
  summary : Option Summary
  deriving DecidableEq, Repr

/-- The part. `base` is the phase of the time base in milliseconds since RUN, `freeIx` the counter the free values are
read at, `pending` the commands waiting, first in first out. -/
structure State where
  pending : List Instr
  running : Bool
  station : Nat
  seconds : Nat
  base : Nat
  freeIx : Nat
  pins : Pins
  cfg : Sections
  link : Link
  conv : Converter
  scale : Scale
  feed : Feed
  dust : Dust
  qli : Qli
  peers : List Peer
  plan : Plan
  claim : Claim
  travel : Travel
  spout : Spout
  cycle : Cycle
  bills : Bills
  deriving DecidableEq, Repr

/-! ### Reset values -/

/-- The station number the straps give (R193). -/
def strapNumber (p : Straps) : Nat :=
  (if p.strap0 then 1 else 0) + (if p.strap1 then 2 else 0) + (if p.strap2 then 4 else 0)

/-- R61. -/
def Head.reset : Head :=
  { power := false, history := [], avgLevel := .clear, latch := false, fault := false, faultCount := 0 }

/-- R96. -/
def Peer.reset : Peer :=
  { presence := .unheard, referenced := false, pos := none, span := none, cycle := none, halted := false,
    auto := false, degraded := false, planId := none, claim := none, dust := none, trips := 0, age := none,
    mismatch := false, orderFault := false }

/-- R16: clear. -/
def Quality.clear : Quality := { overrange := false, underzero := false, pulseSat := false, saturated := false }

/-- R9: clear. -/
def IntervalFlags.clear : IntervalFlags := { overrange := false, underzero := false, pulseSat := false }

/-- R22. -/
def Scale.reset : Scale :=
  { load := 0, overrange := false, pulses := 0, pulseSat := false, prevFlags := .clear, beltMoving := false,
    beltMs := none, workingZero := none, fine := 0, openGrams := 0, stray := 0, total := 0, closed := 0,
    pourOpen := false, pendingOpen := false, pendingClose := none, quality := .clear, saturated := false,
    calRunning := false, calSkip := false, calSum := 0, calCount := 0, lastZero := .none, snapshot := none }

/-- R42. -/
def Feed.reset : Feed :=
  { mode := .shut, acc := 0, count := 0, mass := 0, lastEval := none, setpoint := none, staged := none, holdoff := 0,
    share := none, surge := false }

/-- R61. -/
def Dust.reset : Dust :=
  { sampling := .sleeping, wakeMs := none, sleepMs := none, warmMs := none, heads := List.replicate 4 .reset,
    exposure := .clear, repeatCount := 0, clearRepeats := 0, hornPos := 0, lampPos := 0, silenced := false }

/-- R80. -/
def Qli.reset : Qli :=
  { queue := [], rx := .hunting, clash := false, degraded := false, winErrors := 0, lineMs := 0, rxErrors := 0,
    foreign := 0, txErr := 0, txDrop := 0 }

/-- R117. -/
def Plan.reset : Plan :=
  { state := .none, header := none, holds := [], tranches := [], check := none, catchUp := none, cursor := 0 }

/-- R137. -/
def Claim.reset : Claim :=
  { state := .none, own := none, selection := none, mProj := none, mLive := none, trim := false }

/-- R157. -/
def Travel.reset : Travel :=
  { count := 0, referenced := false, state := .stopped, homing := false, searchStart := none, drive := .off,
    moveSpan := none, targetHold := none, target := none, approach := none, held := false, holdTicks := 0,
    overshoots := 0, correcting := false, fault := none, stallMs := none, restMs := none }

/-- R157: the spout state that the two limits give before RUN. -/
def Spout.fromLimits (raised lowered : Bool) : Spout :=
  match raised, lowered with
  | true, false => { state := .raised, jam := none, ms := none }
  | false, true => { state := .lowered, jam := none, ms := none }
  | _, _ => { state := .jammed, jam := some .timeout, ms := none }

/-- R176. -/
def Cycle.reset : Cycle :=
  { state := .idle, auto := false, causes := [], haltCause := none, lapseAnswered := false, withdrawMark := false,
    ending := false, settleOutcome := none, settleMs := none, attendMs := none, dustPaused := false,
    trimPaused := false, lastHalt := none }

/-- R188. -/
def Bills.reset : Bills :=
  { stored := [], reserved := false, identity := none, openedAt := none, seq := 1, totals := List.replicate 12 0,
    entries := 0, summary := none }

/-- The part after a reset that sampled these straps and inputs (R193 and the reset table of each chapter). -/
def State.afterReset (straps : Straps) (pins : Pins) : State :=
  { pending := [], running := false, station := strapNumber straps, seconds := 0, base := 0, freeIx := 0,
    pins := pins,
    cfg := { rail := none, scale := none, feed := none, dust := none, lines := none, patterns := none },
    link := { buf := none, miso := [], flags := 0, enables := 0 },
    conv := { requests := [], busy := none },
    scale := .reset, feed := .reset, dust := .reset, qli := .reset, peers := List.replicate 8 .reset,
    plan := .reset, claim := .reset, travel := .reset, spout := Spout.fromLimits pins.raised pins.lowered,
    cycle := .reset, bills := .reset }

/-- DESIGN CHOICE (log 1). The inputs a reset samples are not given by the spec: straps 0, 0, 0; every input inactive
but the raised limit ("spout normally RAISED", R158). -/
def State.reset : State :=
  .afterReset { strap0 := false, strap1 := false, strap2 := false }
    { belt := false, home := false, proxLo := false, proxHi := false, raised := true, lowered := false,
      p1 := false, p2 := false, p3 := false }

end Sys2Proof.Machine
end

