-- ==== Sys2Proof/Machine/Flags.lean ====
section
/-! DEFINITION. Event flags and ATTN (R194), interval flags (R9) and the quality flags of a pour (R16). -/

namespace Sys2Proof.Machine

/-- The bit of an event flag (the table of R194). -/
def Event.bit : Event → Nat
  | .claimWon => 0
  | .claimLost => 1
  | .yielded => 2
  | .takenOver => 3
  | .pourClosed => 4
  | .billLow => 5
  | .billFull => 6
  | .paused => 7
  | .halted => 8
  | .dustChange => 9
  | .dustTrip => 10
  | .headFault => 11
  | .travelFault => 12
  | .spoutJam => 13
  | .encoderSlip => 14
  | .peerSilent => 15
  | .peerBack => 16
  | .planMismatch => 17
  | .planReady => 18
  | .lineDegraded => 19
  | .stationClash => 20
  | .orderFault => 21
  | .scaleFlag => 22
  | .zeroDone => 23

/-- The mask of one event flag. -/
def Event.mask (e : Event) : BitVec 24 := BitVec.ofNat 24 (2 ^ e.bit)

/-- An event sets its flag, which stays set until CLEAR EVENTS (R194). -/
def raise (e : Event) (s : State) : State :=
  { s with link := { s.link with flags := s.link.flags ||| e.mask } }

/-- Raise an event when a condition holds. -/
def raiseIf (c : Bool) (e : Event) (s : State) : State := if c then raise e s else s

/-- ATTN is active while at least one flag is both set and enabled (R194). -/
def attn (s : State) : Bool := s.link.flags &&& s.link.enables != 0

/-- The flags of one interval include one that the previous interval's did not (R9). -/
def IntervalFlags.onset (now prev : IntervalFlags) : Bool :=
  (now.overrange && !prev.overrange) || (now.underzero && !prev.underzero) || (now.pulseSat && !prev.pulseSat)

/-- An interval credited to the pour sets its flags in the pour's, where they stay (R16). -/
def Quality.credit (q : Quality) (i : IntervalFlags) (sat : Bool) : Quality :=
  { overrange := q.overrange || i.overrange, underzero := q.underzero || i.underzero,
    pulseSat := q.pulseSat || i.pulseSat, saturated := q.saturated || sat }

end Sys2Proof.Machine
end

