-- ==== Sys2Proof/Machine/Operands.lean ====
section
/-! DEFINITION. Operand forms: the judgement of a link frame's length (R189), numbers and codes in records (R197,
R198), the configuration sections with their checks (R7, R23, R43, R44, R138, R191, R198), and the line frames with
their check, layouts and acceptance ranges (R63, R64, R70, R197). -/

namespace Sys2Proof.Machine

/-! ### Numbers in records -/

/-- `n` bytes, lowest byte first (section 11.8). -/
def le : Nat → Nat → List Byte
  | 0, _ => []
  | n + 1, v => BitVec.ofNat 8 v :: le n (v / 256)

/-- `n` bytes of a signed number, two's complement, lowest byte first. -/
def leSigned (n : Nat) (v : Int) : List Byte := le n (v % (2 ^ (8 * n) : Nat)).toNat

/-- The unsigned number some bytes hold, lowest byte first. -/
def number : List Byte → Nat
  | [] => 0
  | b :: bs => b.toNat + 256 * number bs

/-- The unsigned number in the `len` bytes at offset `off`. -/
def numAt (bs : List Byte) (off len : Nat) : Nat := number ((bs.drop off).take len)

/-- A 16-bit pattern read as a signed number. -/
def signed16 (v : Nat) : Int := if v < 32768 then (v : Int) else (v : Int) - 65536

/-- The bits of a number, bit 0 first. -/
def bitsOf (n v : Nat) : List Bool := (List.range n).map v.testBit

/-- A truth value as one byte (R198). -/
def flagByte (b : Bool) : List Byte := [if b then 1 else 0]

/-- A set in as few bytes as hold it, first member in bit 0 (R198). -/
def setBytes (n : Nat) (members : List Bool) : List Byte :=
  le n (members.foldr (fun b acc => (if b then 1 else 0) + 2 * acc) 0)

/-- A result that may be absent: presence byte, then its bytes or zeros (R198). -/
def optBytes (n : Nat) : Option (List Byte) → List Byte
  | some bs => 1 :: bs
  | none => 0 :: List.replicate n 0

/-- A list: a count byte, then the members (R198). -/
def listBytes (ms : List (List Byte)) : List Byte := BitVec.ofNat 8 ms.length :: ms.flatten

/-! ### Codes (R197) -/

def DustLevel.code : DustLevel → Nat
  | .clear => 0
  | .warn => 1
  | .high => 2
  | .trip => 3

def DustLevel.ofCode : Nat → Option DustLevel
  | 0 => some .clear
  | 1 => some .warn
  | 2 => some .high
  | 3 => some .trip
  | _ => none

def HeadLevel.code : HeadLevel → Nat
  | .clear => 0
  | .warn => 1
  | .high => 2
  | .trip => 3
  | .fault => 4

/-- The order of R55 is the order of the codes. -/
def Exposure.code : Exposure → Nat
  | .clear => 0
  | .warn => 1
  | .high => 2
  | .nearTrip => 3
  | .trip => 4

def CycleState.code : CycleState → Nat
  | .idle => 0
  | .claiming => 1
  | .positioning => 2
  | .pouring => 3
  | .paused => 4
  | .settling => 5
  | .withdrawing => 6
  | .halted => 7

def CycleState.ofCode : Nat → Option CycleState
  | 0 => some .idle
  | 1 => some .claiming
  | 2 => some .positioning
  | 3 => some .pouring
  | 4 => some .paused
  | 5 => some .settling
  | 6 => some .withdrawing
  | 7 => some .halted
  | _ => none

def CloseOutcome.code : CloseOutcome → Nat
  | .done => 0
  | .released => 1

def CloseOutcome.ofCode : Nat → Option CloseOutcome
  | 0 => some .done
  | 1 => some .released
  | _ => none

def PourOutcome.code : PourOutcome → Nat
  | .done => 0
  | .withdrawn => 1
  | .yielded => 2
  | .takenOver => 3
  | .hatchLost => 4

def HaltCause.code : HaltCause → Nat
  | .ownTrip => 1
  | .beltStall => 2
  | .spoutJam => 3
  | .spoutDrift => 4
  | .travelFault => 5
  | .hostLapse => 6
  | .hostHalt => 7
  | .stationClash => 8
  | .restartLowered => 9

/-- A halt cause that may be absent: code 0 marks it absent (R197). -/
def haltCode : Option HaltCause → Nat
  | some c => c.code
  | none => 0

def FeedMode.code : FeedMode → Nat
  | .shut => 0
  | .regulate => 1
  | .dribble => 2

def Status.code : Status → Nat
  | .done => 0
  | .doneClamped => 1
  | .refused => 2

def Reason.code : Reason → Nat
  | .none => 0
  | .unknown => 1
  | .badLength => 2
  | .badValue => 3
  | .state => 4
  | .notRunning => 5
  | .configClosed => 6
  | .missing => 7
  | .planLoaded => 8
  | .planFull => 9
  | .noPlan => 10
  | .notSilent => 11
  | .billEmpty => 12

def PlanState.code : PlanState → Nat
  | .none => 0
  | .building => 1
  | .learning => 2
  | .ready => 3

def ClaimState.code : ClaimState → Nat
  | .none => 0
  | .pending => 1
  | .held => 2
  | .closing => 3

def Selection.code : Selection → Nat
  | .chosen _ => 0
  | .notAgreed => 1
  | .degraded => 2
  | .dust => 3
  | .unreferenced => 4
  | .billFull => 5
  | .noneEligible => 6

def Presence.code : Presence → Nat
  | .unheard => 0
  | .live => 1
  | .silent => 2
  | .retired => 3

def TravelState.code : TravelState → Nat
  | .stopped => 0
  | .waiting => 1
  | .reserving => 2
  | .moving => 3
  | .creeping => 4
  | .faulted => 5

def TravelFault.code : TravelFault → Nat
  | .stall => 0
  | .prox => 1
  | .spanExit => 2
  | .overshoot => 3

def Drive.code : Drive → Nat
  | .off => 0
  | .creep .low => 1
  | .creep .high => 2
  | .fast .low => 3
  | .fast .high => 4

def Dir.code : Dir → Nat
  | .low => 0
  | .high => 1

def SpoutState.code : SpoutState → Nat
  | .raised => 0
  | .lowering => 1
  | .lowered => 2
  | .raising => 3
  | .jammed => 4

/-- The spout request output: none 0, RAISE 1, LOWER 2 (section 8.8, R197). -/
def SpoutState.requestCode : SpoutState → Nat
  | .raising => 1
  | .lowering => 2
  | _ => 0

def JamCause.code : JamCause → Nat
  | .timeout => 0
  | .drift => 1

def Sampling.code : Sampling → Nat
  | .sleeping => 0
  | .waking => 1
  | .warming => 2
  | .continuous => 3
  | .draining => 4

def ZeroResult.code : ZeroResult → Nat
  | .none => 0
  | .ok => 1
  | .noBelt => 2
  | .range => 3

def SettleOutcome.code : SettleOutcome → Nat
  | .done => 0
  | .withdrawn => 1

/-! ### Link frames -/

/-- What a block answers a command with (R190). -/
structure Answer where
  status : Status
  reason : Reason
  result : List Byte
  deriving DecidableEq, Repr

/-- DONE with result bytes. -/
def done (result : List Byte) : Answer := { status := .done, reason := .none, result := result }

/-- REFUSED with a reason and no result bytes. -/
def refuse (r : Reason) : Answer := { status := .refused, reason := r, result := [] }

/-- Steps 1 and 4 of R189 for a frame whose code names a command: the field bytes, or none for BAD_LENGTH. `rest` is
every byte after the code; `fits` says whether the fields have the command's length. -/
def linkFields (fits : List Byte → Bool) (rest : List Byte) : Option (List Byte) :=
  if 64 < rest.length + 1 then none
  else
    match rest with
    | [] => none
    | len :: bytes =>
      if bytes.length < len.toNat then none
      else if fits (bytes.take len.toNat) then some (bytes.take len.toNat) else none

/-- Fields of a fixed length. -/
def fitsLen (n : Nat) (fs : List Byte) : Bool := fs.length == n

/-- The length of a section's content (the table of R198); a section number outside 1 to 6 fits any length, and is
refused by R191. -/
def sectionLength : Nat → Option Nat
  | 1 => some 25
  | 2 => some 10
  | 3 => some 41
  | 4 => some 17
  | 5 => some 14
  | 6 => some 30
  | _ => none

/-- SET CONFIG requires 1 plus the length of the section its first byte names (R198). -/
def fitsSection : List Byte → Bool
  | [] => false
  | n :: content =>
    match sectionLength n.toNat with
    | some k => content.length == k
    | none => true

/-- The bytes a frame of `n` bytes shifts out: the response, or the empty response, then 0x00 (R189, R198). -/
def shiftOut (buf : Option Response) (n : Nat) : List Byte :=
  let record : List Byte :=
    match buf with
    | some r =>
      r.code :: BitVec.ofNat 8 r.status.code :: BitVec.ofNat 8 r.reason.code :: BitVec.ofNat 8 r.result.length :: r.result
    | none => [0, 0, 0, 0]
  (record ++ List.replicate (n - record.length) 0).take n

/-! ### Configuration sections -/

/-- A value lies in an inclusive range. -/
def inRange (v lo hi : Nat) : Bool := decide (lo ≤ v) && decide (v ≤ hi)

/-- The ranges and cross-checks of R138. -/
def railOk (c : RailCfg) : Bool :=
  inRange c.n 1 8 && inRange c.railMin 0 65534 && decide (c.railMin < c.railMax) && inRange c.half 1 10000 &&
  inRange c.gap 1 10000 && decide (c.arrivalTol < c.gap) && inRange c.countsPerCm 1 64 &&
  inRange c.homeCm c.railMin c.railMax && inRange c.homeTol 0 1000 && inRange c.homeSearch 1 65535 &&
  decide (c.arrivalTol < c.creepZone) && inRange c.creepZone 0 10000 && inRange c.arrivalTol 0 1000 &&
  inRange c.stallTime 100 10000 && inRange c.clearance 0 10000

/-- RAIL by its layout (R198); none when a check fails or the home direction's code is not 0 or 1. -/
def parseRail (b : List Byte) : Option RailCfg :=
  let dir : Option Dir := match numAt b 12 1 with
    | 0 => some .low
    | 1 => some .high
    | _ => none
  match dir with
  | none => none
  | some d =>
    let c : RailCfg :=
      { n := numAt b 0 1, railMin := numAt b 1 2, railMax := numAt b 3 2, half := numAt b 5 2, gap := numAt b 7 2,
        countsPerCm := numAt b 9 1, homeCm := numAt b 10 2, homeDir := d, homeTol := numAt b 13 2,
        homeSearch := numAt b 15 2, creepZone := numAt b 17 2, arrivalTol := numAt b 19 2,
        stallTime := numAt b 21 2, clearance := numAt b 23 2 }
    if railOk c then some c else none

/-- The ranges of R7. -/
def scaleOk (c : ScaleCfg) : Bool :=
  inRange c.span 1 65535 && inRange c.zero 0 4095 && inRange c.zeroTol 0 1000 && inRange c.zeroLimit 0 1000 &&
  inRange c.beltStall 100 10000

/-- SCALE by its layout (R198). -/
def parseScale (b : List Byte) : Option ScaleCfg :=
  let c : ScaleCfg :=
    { span := numAt b 0 2, zero := numAt b 2 2, zeroTol := numAt b 4 2, zeroLimit := numAt b 6 2,
      beltStall := numAt b 8 2 }
  if scaleOk c then some c else none

/-- Each entry is not less than the one before it. -/
def nondecreasing : List Nat → Bool
  | a :: b :: rest => decide (a ≤ b) && nondecreasing (b :: rest)
  | _ => true

/-- The ranges and cross-checks of R23. -/
def feedOk (c : FeedCfg) : Bool :=
  nondecreasing c.table && decide (c.accMin ≤ c.accMax) && inRange c.accStart c.accMin c.accMax &&
  inRange c.stepUp 0 16383 && inRange c.stepDown 0 16383 && decide (-512 ≤ c.leak) && decide (c.leak ≤ 511) &&
  inRange c.window 2 64 && inRange c.band 1 32 && inRange c.surgeGrams 1 67108863 && inRange c.surgeStep 0 16383 &&
  inRange c.surgeHold 1 255 && inRange c.fMin 1 5000 && inRange c.fMax c.fMin 5000 && inRange c.dribbleIx 0 7 &&
  inRange c.settleTime 1 60 && inRange c.warnIx 0 7 && inRange c.highIx 0 c.warnIx

/-- FEED by its layout (R198). -/
def parseFeed (b : List Byte) : Option FeedCfg :=
  let c : FeedCfg :=
    { table := (List.range 8).map (fun k => numAt b k 1), accMin := numAt b 8 2, accMax := numAt b 10 2,
      accStart := numAt b 12 2, stepUp := numAt b 14 2, stepDown := numAt b 16 2, leak := signed16 (numAt b 18 2),
      window := numAt b 20 1, band := numAt b 21 1, surgeGrams := numAt b 22 4, surgeStep := numAt b 26 2,
      surgeHold := numAt b 28 1, fMin := numAt b 29 2, fMax := numAt b 31 2, dribbleKg := numAt b 33 2,
      spillKg := numAt b 35 2, dribbleIx := numAt b 37 1, settleTime := numAt b 38 1, warnIx := numAt b 39 1,
      highIx := numAt b 40 1 }
  if feedOk c then some c else none

/-- The ranges and order of R43. -/
def dustOk (c : DustCfg) : Bool :=
  inRange c.warnOff 0 4095 && decide (c.warnOff < c.warnOn) && decide (c.warnOn ≤ c.highOff) &&
  decide (c.highOff < c.highOn) && decide (c.highOn < c.tripOn) && decide (c.tripOn ≤ 4095) &&
  inRange c.sleepPeriod 100 60000 && inRange c.wakeWindow 20 2000

/-- DUST by its layout (R198). Bits 4 to 7 of the enable byte are ignored (log 26). -/
def parseDust (b : List Byte) : Option DustCfg :=
  let c : DustCfg :=
    { enabled := bitsOf 4 (numAt b 0 1), warnOff := numAt b 1 2, warnOn := numAt b 3 2, highOff := numAt b 5 2,
      highOn := numAt b 7 2, tripOn := numAt b 9 2, sleepPeriod := numAt b 11 2, wakeWindow := numAt b 13 2,
      radius := numAt b 15 2 }
  if dustOk c then some c else none

/-- The ranges of the LINES table (R191). -/
def linesOk (c : LinesCfg) : Bool :=
  c.filters.all (fun t => decide (t ≤ 15)) && inRange c.spoutTimeout 1 255 && inRange c.attendance 0 60 &&
  inRange c.peerTimeout 500 10000

/-- LINES by its layout (R198). -/
def parseLines (b : List Byte) : Option LinesCfg :=
  let c : LinesCfg :=
    { filters := (List.range 9).map (fun k => numAt b k 1), permits := bitsOf 8 (numAt b 9 1),
      spoutTimeout := numAt b 10 1, attendance := numAt b 11 1, peerTimeout := numAt b 12 2 }
  if linesOk c then some c else none

/-- One pattern of three bytes: length, then the steps, bit k for step k (R198). Steps past the length are ignored (log 26). -/
def parsePattern (b : List Byte) (off : Nat) : Pattern :=
  { len := numAt b off 1, steps := bitsOf 16 (numAt b (off + 1) 2) }

/-- A length lies in 2 to 16 (R44). -/
def patternsOk (c : PatternsCfg) : Bool :=
  c.horn.all (fun p => inRange p.len 2 16) && c.lamp.all (fun p => inRange p.len 2 16)

/-- PATTERNS by its layout (R198). -/
def parsePatterns (b : List Byte) : Option PatternsCfg :=
  let c : PatternsCfg :=
    { horn := (List.range 5).map (fun k => parsePattern b (6 * k)),
      lamp := (List.range 5).map (fun k => parsePattern b (6 * k + 3)) }
  if patternsOk c then some c else none

/-! ### Line frames -/

/-- The class of a frame (the table of R64). -/
def Frame.cls : Frame → Nat
  | .dust .. => 1
  | .claim .. => 2
  | .close .. => 3
  | .span .. => 4
  | .tally .. => 5
  | .beacon .. => 6
  | .note .. => 7

/-- The payload length of a class in use (the table of R64). -/
def payloadLength : Nat → Option Nat
  | 1 => some 5
  | 2 => some 5
  | 3 => some 10
  | 4 => some 4
  | 5 => some 8
  | 6 => some 14
  | 7 => some 9
  | _ => none

/-- Payload layouts (R197). Flag bits not listed are sent as 0. -/
def Frame.payload : Frame → List Byte
  | .dust level trips ref pos => le 1 level.code ++ le 1 trips ++ setBytes 1 [ref] ++ le 2 pos
  | .claim plan tr seq hold => le 2 plan ++ le 1 tr ++ le 1 seq ++ le 1 hold
  | .close plan tr seq out behalf settled =>
    le 2 plan ++ le 1 tr ++ le 1 seq ++ le 1 out.code ++ le 1 behalf ++ le 4 settled
  | .span lo hi => le 2 lo ++ le 2 hi
  | .tally plan tr seq live => le 2 plan ++ le 1 tr ++ le 1 seq ++ le 4 live
  | .beacon st ref halted auto deg pos lo hi plan check tr seq =>
    le 1 st.code ++ setBytes 1 [ref, halted, auto, deg] ++ le 2 pos ++ le 2 lo ++ le 2 hi ++ le 2 plan ++ le 2 check ++
      le 1 tr ++ le 1 seq
  | .note plan tr isDone seq settled =>
    le 2 plan ++ le 1 tr ++ le 1 (if isDone then 1 else 0) ++ le 1 seq ++ le 4 settled

/-- A payload of a class, of the class's length, with every field in its range (R70 steps 1 to 3, R197); flag bits not
listed are ignored. -/
def Frame.ofPayload (cls : Nat) (b : List Byte) : Option Frame :=
  if payloadLength cls != some b.length then none
  else
    match cls with
    | 1 =>
      match DustLevel.ofCode (numAt b 0 1) with
      | some level =>
        let trips := numAt b 1 1
        if decide (trips ≤ 4) && (decide (0 < trips) == (level == .trip)) then
          some (.dust level trips ((numAt b 2 1).testBit 0) (numAt b 3 2))
        else none
      | none => none
    | 2 =>
      if inRange (numAt b 2 1) 1 24 && inRange (numAt b 4 1) 1 12 then
        some (.claim (numAt b 0 2) (numAt b 2 1) (numAt b 3 1) (numAt b 4 1))
      else none
    | 3 =>
      match CloseOutcome.ofCode (numAt b 4 1) with
      | some out =>
        if inRange (numAt b 2 1) 1 24 && inRange (numAt b 5 1) 0 7 then
          some (.close (numAt b 0 2) (numAt b 2 1) (numAt b 3 1) out (numAt b 5 1) (numAt b 6 4))
        else none
      | none => none
    | 4 => if numAt b 0 2 ≤ numAt b 2 2 then some (.span (numAt b 0 2) (numAt b 2 2)) else none
    | 5 =>
      if inRange (numAt b 2 1) 1 24 then
        some (.tally (numAt b 0 2) (numAt b 2 1) (numAt b 3 1) (numAt b 4 4))
      else none
    | 6 =>
      match CycleState.ofCode (numAt b 0 1) with
      | some st =>
        if numAt b 4 2 ≤ numAt b 6 2 && numAt b 12 1 ≤ 24 then
          let fl := numAt b 1 1
          some (.beacon st (fl.testBit 0) (fl.testBit 1) (fl.testBit 2) (fl.testBit 3) (numAt b 2 2) (numAt b 4 2)
            (numAt b 6 2) (numAt b 8 2) (numAt b 10 2) (numAt b 12 1) (numAt b 13 1))
        else none
      | none => none
    | 7 =>
      if inRange (numAt b 2 1) 1 24 && numAt b 3 1 ≤ 1 then
        some (.note (numAt b 0 2) (numAt b 2 1) (numAt b 3 1 == 1) (numAt b 4 1) (numAt b 5 4))
      else none
    | _ => none

/-- The low `n` bits of a number, most significant bit first (R63). -/
def bitsMsb (n v : Nat) : List Bool := (List.range n).map (fun i => v.testBit (n - 1 - i))

/-- One bit into the check register (R63): generator x^16 + x^12 + x^5 + 1. -/
def crcStep (r : BitVec 16) (bit : Bool) : BitVec 16 :=
  if r.msb != bit then (r <<< 1) ^^^ 0x1021#16 else r <<< 1

/-- The check over key, length and payload, from a register of all ones (R63). -/
def frameCheck (key : BitVec 7) (payload : List Byte) : BitVec 16 :=
  (bitsMsb 7 key.toNat ++ bitsMsb 5 payload.length ++ payload.flatMap (fun b => bitsMsb 8 b.toNat)).foldl
    crcStep 0xFFFF#16

/-- The key's class and station number (R63: class × 8 + station number). -/
def rxClass (f : RxFrame) : Nat := f.key.toNat / 8

def rxStation (f : RxFrame) : Nat := f.key.toNat % 8

/-- All 16 check bits agree (R63). -/
def rxGood (f : RxFrame) : Bool := f.check == frameCheck f.key f.payload

/-- A frame as a station sends it: key, payload and check (R63, R64). -/
def Frame.wire (station : Nat) (f : Frame) : RxFrame :=
  let key := BitVec.ofNat 7 (f.cls * 8 + station)
  { key := key, payload := f.payload, check := frameCheck key f.payload }

end Sys2Proof.Machine
end

