-- ==== Sys2Proof/Machine/Ops.lean ====
section
/-! DEFINITION. Figures the spec derives from the state (position, permit, levels, hatches, intervals, gate, outputs),
and the shared operations of the converter, the Scale Unit's pour requests, the Bill Log's slots and the spout. -/

namespace Sys2Proof.Machine

/-! ### Numbers -/

/-- A saturating addition (section 0.5). -/
def satAdd (limit a b : Nat) : Nat := min limit (a + b)

/-- The largest value of an `n`-bit counter. -/
def maxOf (n : Nat) : Nat := 2 ^ n - 1

/-- A rail position clamped to 0 and 65,535 (R89, R104, R143). -/
def clampPos (z : Int) : Nat := min 65535 z.toNat

/-- |a − b| of two positions. -/
def dist (a b : Nat) : Nat := (a - b) + (b - a)

/-- Two stretches overlap when they share at least one centimetre (R89). -/
def Stretch.overlaps (a b : Stretch) : Bool := decide (a.lo ≤ b.hi) && decide (b.lo ≤ a.hi)

/-- A position lies in a stretch. -/
def Stretch.holds (a : Stretch) (x : Nat) : Bool := decide (a.lo ≤ x) && decide (x ≤ a.hi)

/-- The first stretch lies within the second. -/
def Stretch.within (a b : Stretch) : Bool := decide (b.lo ≤ a.lo) && decide (a.hi ≤ b.hi)

/-- A signed stretch brought onto the rail's number range (R89, R143). -/
def stretchOf (lo hi : Int) : Stretch := { lo := clampPos lo, hi := clampPos hi }

/-- One millisecond on a running timer. -/
def countMs (t : Option Nat) : Option Nat := t.map (· + 1)

/-- A timer has reached its limit. -/
def reached (t : Option Nat) (limit : Nat) : Bool :=
  match t with
  | some n => decide (limit ≤ n)
  | none => false

/-! ### Configuration values -/

/-- Stands in for RAIL before it is accepted: C is taken as 1 (R139) and every entry counts (R81). Its other values are
read by no rule before RUN (log 32). -/
def railAbsent : RailCfg :=
  { n := 8, railMin := 0, railMax := 65535, half := 0, gap := 0, countsPerCm := 1, homeCm := 0, homeDir := .low,
    homeTol := 0, homeSearch := 0, creepZone := 0, arrivalTol := 0, stallTime := 0, clearance := 0 }

/-- The RAIL values in force. -/
def rail (s : State) : RailCfg := s.cfg.rail.getD railAbsent

/-- A head is enabled by the DUST section (R43). -/
def headEnabled (s : State) (k : Nat) : Bool :=
  match s.cfg.dust with
  | some c => c.enabled.getD k false
  | none => false

/-! ### Position, permit and hatches -/

/-- The position: encoder count div C (R139). -/
def position (s : State) : Nat := s.travel.count / (rail s).countsPerCm

/-- The permit index (R161). -/
def permitIndex (s : State) : Nat :=
  (if s.pins.p1 then 1 else 0) + (if s.pins.p2 then 2 else 0) + (if s.pins.p3 then 4 else 0)

/-- The permit: the table's entry at the index, false until LINES is accepted (R161). -/
def permit (s : State) : Bool :=
  match s.cfg.lines with
  | some c => c.permits.getD (permitIndex s) false
  | none => false

/-- The hold of a number, if the plan has it. -/
def findHold (s : State) (h : Nat) : Option Hold := s.plan.holds.find? (fun x => x.number == h)

/-- The tranche of an id, if the plan has it. -/
def findTranche (s : State) (k : Nat) : Option Tranche := s.plan.tranches.find? (fun t => t.id == k)

/-- The vessel reference of the plan held. -/
def vesselRef (s : State) : Nat :=
  match s.plan.header with
  | some h => h.vesselRef
  | none => 0

/-- The hatch centre before clamping (R101 check 5, R104). -/
def rawCentre (s : State) (h : Hold) : Int := (vesselRef s : Int) + h.offset

/-- The hatch centre (R104). -/
def hatchCentre (s : State) (h : Hold) : Nat := clampPos (rawCentre s h)

/-- The hatch window, none when it is empty (R104). -/
def hatchWindow (s : State) (h : Hold) : Option Stretch :=
  if h.half ≤ (rail s).clearance then none
  else
    let reach : Int := (h.half : Int) - (rail s).clearance
    some (stretchOf ((hatchCentre s h : Int) - reach) ((hatchCentre s h : Int) + reach))

/-- The in-window level (R152): the claim is HELD, its hold's window is not empty, the station is referenced and the
position lies in the window. -/
def inWindow (s : State) : Bool :=
  match s.claim.state, s.claim.own with
  | .held, some r =>
    match findHold s r.hold with
    | some h =>
      match hatchWindow s h with
      | some w => s.travel.referenced && w.holds (position s)
      | none => false
    | none => false
  | _, _ => false

/-- The own plan identity: number and check, once sealed (R94, R97). -/
def ownPlanId (s : State) : Option (Nat × Nat) :=
  match s.plan.state, s.plan.header, s.plan.check with
  | .learning, some h, some c => some (h.number, c)
  | .ready, some h, some c => some (h.number, c)
  | _, _, _ => none

/-! ### The own span and the peers' intervals -/

/-- The body with signed ends, unclamped (R89). -/
def bodyLo (s : State) : Int := (position s : Int) - (rail s).half

def bodyHi (s : State) : Int := (position s : Int) + (rail s).half

/-- The body (R143). -/
def body (s : State) : Stretch := stretchOf (bodyLo s) (bodyHi s)

/-- The own span (R143): absent before RAIL; the move or homing span in RESERVING, MOVING and CREEPING, else the body. -/
def ownSpan (s : State) : Option Stretch :=
  match s.cfg.rail with
  | none => none
  | some _ =>
    match s.travel.state with
    | .reserving => some (s.travel.moveSpan.getD (body s))
    | .moving => some (s.travel.moveSpan.getD (body s))
    | .creeping => some (s.travel.moveSpan.getD (body s))
    | _ => some (body s)

/-- The Peer Table's entry of a station number (R81). -/
def peer (s : State) (i : Nat) : Peer := s.peers.getD i .reset

/-- An entry counts when its number is below N, or while RAIL has not been accepted (R81). -/
def counts (s : State) (i : Nat) : Bool := decide (i < (rail s).n)

/-- The order rule (R90): the stretch an unlocated peer blocks on its side, none when empty. -/
def orderRule (s : State) (i : Nat) : Option Stretch :=
  if s.station < i then
    if 65535 < bodyHi s + (rail s).gap then none else some (stretchOf (bodyHi s + (rail s).gap) 65535)
  else
    if bodyLo s - (rail s).gap < 0 then none else some (stretchOf 0 (bodyLo s - (rail s).gap))

/-- The blocking interval of a station's entry (R89), none when empty. The own number has no entry. -/
def blocking (s : State) (i : Nat) : Option Stretch :=
  if i = s.station || !counts s i then none
  else
    let p := peer s i
    match p.presence with
    | .retired => none
    | .unheard => orderRule s i
    | _ =>
      match p.pos with
      | none => orderRule s i
      | some x =>
        if p.orderFault then some { lo := 0, hi := 65535 }
        else
          match p.span with
          | some sp => some (stretchOf ((sp.lo : Int) - (rail s).gap) ((sp.hi : Int) + (rail s).gap))
          | none =>
            some (stretchOf ((x : Int) - (rail s).half - (rail s).gap) ((x : Int) + (rail s).half + (rail s).gap))

/-- The blocking intervals of stations 0 to 7. -/
def blockings (s : State) : List (Option Stretch) := (List.range 8).map (blocking s)

/-- The station numbers whose blocking interval overlaps a stretch. -/
def overlapping (s : State) (sp : Stretch) : List Nat :=
  (List.range 8).filter (fun i =>
    match blocking s i with
    | some b => b.overlaps sp
    | none => false)

/-- The low end of the free stretch (R92). -/
def freeLo (s : State) : Nat :=
  (List.range 8).foldl (fun acc i =>
    if i < s.station then
      match blocking s i with
      | some b => max acc (b.hi + 1)
      | none => acc
    else acc) 0

/-- The high end of the free stretch plus one (R92), so that an end below 0 needs no sign. -/
def freeEnd (s : State) : Nat :=
  (List.range 8).foldl (fun acc i =>
    if s.station < i then
      match blocking s i with
      | some b => min acc b.lo
      | none => acc
    else acc) 65536

/-- The free stretch (R92), none when empty. -/
def freeStretch (s : State) : Option Stretch :=
  if freeLo s < freeEnd s then some { lo := freeLo s, hi := freeEnd s - 1 } else none

/-- The agreement state is AGREED (R94). -/
def agreed (s : State) : Bool := (ownPlanId s).isSome && s.peers.all (fun p => !p.mismatch)

/-! ### Dust levels -/

/-- The average of the readings held (R48). -/
def average (h : Head) : Option Nat :=
  if h.history.length = 0 then none else some (h.history.sum / h.history.length)

/-- The head level (R52). -/
def headLevel (h : Head) : HeadLevel :=
  if h.latch then .trip
  else if h.fault then .fault
  else
    match h.avgLevel with
    | .clear => .clear
    | .warn => .warn
    | .high => .high
    | .trip => .trip

/-- A head level as a level of the station, FAULT taken as HIGH (R52). -/
def HeadLevel.asLevel : HeadLevel → DustLevel
  | .clear => .clear
  | .warn => .warn
  | .high => .high
  | .trip => .trip
  | .fault => .high

/-- The higher of two levels. -/
def DustLevel.sup (a b : DustLevel) : DustLevel := if a.code < b.code then b else a

/-- A head of D1 to D4 by index 0 to 3. -/
def headAt (s : State) (k : Nat) : Head := s.dust.heads.getD k .reset

/-- The station level: the highest head level among the enabled heads (R52). -/
def stationLevel (s : State) : DustLevel :=
  (List.range 4).foldl (fun acc k => if headEnabled s k then acc.sup (headLevel (headAt s k)).asLevel else acc) .clear

/-- The trip count (R52). -/
def tripCount (s : State) : Nat := ((List.range 4).filter (fun k => headEnabled s k && (headAt s k).latch)).length

/-- A station level as an exposure (R55, own). -/
def DustLevel.ownExposure : DustLevel → Exposure
  | .clear => .clear
  | .warn => .warn
  | .high => .high
  | .trip => .trip

/-- A peer's level as an exposure (R55, near peers). -/
def DustLevel.peerExposure : DustLevel → Exposure
  | .clear => .clear
  | .warn => .warn
  | .high => .high
  | .trip => .nearTrip

/-- The higher of two exposures (R55). -/
def Exposure.sup (a b : Exposure) : Exposure := if a.code < b.code then b else a

/-- A peer is near by position (R55). -/
def nearBy (s : State) (p : Peer) : Bool :=
  !s.travel.referenced ||
    match p.pos, s.cfg.dust with
    | some x, some c => decide (dist x (position s) ≤ c.radius)
    | some _, none => false
    | none, _ => true

/-- What a station's entry contributes to the exposure (R55). -/
def peerShare (s : State) (i : Nat) : Exposure :=
  if i = s.station then .clear
  else
    let p := peer s i
    match p.presence, p.dust with
    | .live, some d => if nearBy s p then d.peerExposure else .clear
    | .silent, some d => if nearBy s p then d.peerExposure else .clear
    | _, _ => .clear

/-- The exposure as R55 forms it from its inputs. -/
def formExposure (s : State) : Exposure :=
  (List.range 8).foldl (fun acc i => acc.sup (peerShare s i)) (stationLevel s).ownExposure

/-- The continuous condition (R45). -/
def continuousCondition (s : State) : Bool := s.cycle.state != .idle || decide (1 ≤ s.dust.exposure.code)

/-- The step of a pattern at a position. -/
def patternStepOn (ps : List Pattern) (e : Exposure) (pos : Nat) : Bool :=
  match ps[e.code]? with
  | some p => p.steps.getD pos false
  | none => false

/-- The horn output (R58, R59). -/
def hornOn (s : State) : Bool :=
  match s.cfg.patterns with
  | some c => s.running && !s.dust.silenced && patternStepOn c.horn s.dust.exposure s.dust.hornPos
  | none => false

/-- The lamp output (R58). -/
def lampOn (s : State) : Bool :=
  match s.cfg.patterns with
  | some c => s.running && patternStepOn c.lamp s.dust.exposure s.dust.lampPos
  | none => false

/-! ### Feed figures and the gate -/

/-- The dust ceiling index (R32). -/
def dustIndex (s : State) : Nat :=
  match s.cfg.feed, s.dust.exposure with
  | none, _ => 7
  | some _, .clear => 7
  | some c, .warn => c.warnIx
  | some c, _ => c.highIx

/-- The effective ceiling index (R31), absent before FEED. -/
def kEff (s : State) : Option Nat :=
  s.cfg.feed.map (fun c => min (min 7 (dustIndex s)) (if s.feed.mode = .dribble then c.dribbleIx else 7))

/-- The effective ceiling (R31), absent before FEED. -/
def cEff (s : State) : Option Nat :=
  match s.cfg.feed, kEff s with
  | some c, some k => some (min c.accMax (8192 * k + 8191))
  | _, _ => none

/-- The gate permissive (R39). -/
def gatePermissive (s : State) : Bool :=
  s.cycle.state == .pouring && s.spout.state == .lowered && s.claim.state == .held && inWindow s && permit s &&
    decide (s.dust.exposure.code < 3)

/-- The gate code (R39). -/
def gateCode (s : State) : Nat :=
  match s.cfg.feed with
  | some c => if s.feed.mode ≠ .shut && gatePermissive s then c.table.getD (s.feed.acc / 8192) 0 else 0
  | none => 0

/-! ### Pause causes, claim and bill figures -/

/-- The pause causes NEAR_TRIP, TRIM and PERMIT; none stands before RUN (R165, R175, R176). -/
def nearTripStands (s : State) : Bool := s.running && decide (3 ≤ s.dust.exposure.code)

def permitPauses (s : State) : Bool := s.running && !permit s

def pauseStands (s : State) : Bool := nearTripStands s || s.claim.trim || permitPauses s

/-- The live kg of the open pour, 0 when none is open (R12). -/
def liveKg (s : State) : Nat := if s.scale.pourOpen then s.scale.openGrams / 1000 else 0

/-- A pour is open or its opening is pending. -/
def pourBegun (s : State) : Bool := s.scale.pourOpen || s.scale.pendingOpen

/-- Free slots of the Bill Log (section 10.1). -/
def freeSlots (s : State) : Nat := 32 - s.bills.stored.length - (if s.bills.reserved then 1 else 0)

/-- TXD is recessive while no frame is on the line (R62, R78). -/
def txdIdle (s : State) : Bool := s.qli.queue.all (fun e => e.onLine.isNone)

/-! ### Timers: their limits, and whether each has reached its own (log 5) -/

/-- The SCALE values in force; all present after RUN (R7). -/
def scaleCfg (s : State) : ScaleCfg :=
  s.cfg.scale.getD { span := 0, zero := 0, zeroTol := 0, zeroLimit := 0, beltStall := 0 }

/-- The peer timeout of the LINES section. -/
def peerTimeout (s : State) : Nat :=
  match s.cfg.lines with
  | some c => c.peerTimeout
  | none => 0

/-- The sleep period of the DUST section. -/
def sleepPeriod (s : State) : Nat :=
  match s.cfg.dust with
  | some c => c.sleepPeriod
  | none => 0

/-- The wake window of the DUST section. -/
def wakeWindow (s : State) : Nat :=
  match s.cfg.dust with
  | some c => c.wakeWindow
  | none => 0

/-- The spout timeout in milliseconds (R191). -/
def spoutLimit (s : State) : Nat :=
  match s.cfg.lines with
  | some c => c.spoutTimeout * 100
  | none => 0

/-- The settle time in milliseconds (R166). -/
def settleLimit (s : State) : Nat :=
  match s.cfg.feed with
  | some c => c.settleTime * 1000
  | none => 0

/-- The attendance time in milliseconds (R160). -/
def attendLimit (s : State) : Nat :=
  match s.cfg.lines with
  | some c => c.attendance * 1000
  | none => 0

/-- The belt stall timer has reached the belt stall time (R6). -/
def beltStallDue (s : State) : Bool := reached s.scale.beltMs (scaleCfg s).beltStall

/-- A LIVE entry's age has reached the peer timeout after RUN (R86). -/
def peerDue (s : State) (i : Nat) : Bool :=
  s.running && decide (i ≠ s.station) && decide ((peer s i).presence = .live) && reached (peer s i).age (peerTimeout s)

/-- The wake window has ended (R45). -/
def wakeDue (s : State) : Bool := decide (s.dust.sampling = .waking) && reached s.dust.wakeMs (wakeWindow s)

/-- The sleep period has ended (R45). -/
def sleepDue (s : State) : Bool := decide (s.dust.sampling = .sleeping) && reached s.dust.sleepMs (sleepPeriod s)

/-- The catch-up time of 16 s has ended (R103). -/
def catchUpDue (s : State) : Bool := decide (s.plan.state = .learning) && reached s.plan.catchUp 16000

/-- The stall timer has reached the travel stall time while the drive runs (R148). -/
def stallDue (s : State) : Bool := decide (s.travel.drive ≠ .off) && reached s.travel.stallMs (rail s).stallTime

/-- 200 ms have passed without an edge (R147). -/
def restDue (s : State) : Bool := decide (s.travel.state = .creeping) && reached s.travel.restMs 200

/-- The spout timer has reached the spout timeout during a movement (R153, R154). -/
def spoutDue (s : State) : Bool :=
  (decide (s.spout.state = .lowering) || decide (s.spout.state = .raising)) && reached s.spout.ms (spoutLimit s)

/-- The attendance timer has reached the attendance time (R160). -/
def attendDue (s : State) : Bool := decide (s.cycle.state ≠ .idle) && reached s.cycle.attendMs (attendLimit s)

/-- The settle timer has reached the settle time (R166). -/
def settleDue (s : State) : Bool := s.running && reached s.cycle.settleMs (settleLimit s)

/-- The line window of 1,000 ms has ended (R73). -/
def lineWindowDue (s : State) : Bool := decide (1000 ≤ s.qli.lineMs)

/-! ### Converter and arbiter -/

/-- The fixed order of the request list (R3). -/
def AdcInput.order : AdcInput → Nat
  | .load => 0
  | .head k => k.val + 1

/-- A request joins the list at its place; one already there is merged (R3). -/
def insertRequest (i : AdcInput) : List AdcInput → List AdcInput
  | [] => [i]
  | j :: rest =>
    if i = j then j :: rest
    else if i.order < j.order then i :: j :: rest
    else j :: insertRequest i rest

/-- A free converter is granted to the first pending entry (R3). -/
def grant (s : State) : State :=
  match s.conv.busy with
  | some _ => s
  | none => { s with conv := { s.conv with busy := s.conv.requests.head? } }

/-- Raise conversion requests; the arbiter grants after all of them have joined (R3). -/
def requestConversions (is : List AdcInput) (s : State) : State :=
  grant { s with conv := { s.conv with requests := is.foldl (fun l i => insertRequest i l) s.conv.requests } }

/-- The conversion under way is delivered: its entry leaves the list and the converter becomes free (R2). -/
def deliver (i : AdcInput) (s : State) : State :=
  { s with conv := { requests := s.conv.requests.filter (· != i), busy := none } }

/-- A head's sample request is pending (section 3.2). -/
def samplePending (s : State) (k : Nat) : Bool :=
  s.conv.requests.any (fun i => match i with
    | .head j => j.val == k
    | .load => false)

/-! ### The Scale Unit's requests -/

/-- An opening request (R13): taken when no pour is open and no opening is pending. -/
def openingTaken (s : State) : Bool := !pourBegun s

def requestOpening (s : State) : State :=
  if openingTaken s then { s with scale := { s.scale with pendingOpen := true } } else s

/-- A closing request (R14, R15): taken when a pour is open or an opening is pending and no closing is pending. -/
def requestClosing (o : PourOutcome) (s : State) : State :=
  if pourBegun s && s.scale.pendingClose.isNone then { s with scale := { s.scale with pendingClose := some o } } else s

/-! ### The Bill Log's slots -/

/-- A reservation is granted when the flag is clear and a slot is free (R177). -/
def canReserve (s : State) : Bool := !s.bills.reserved && decide (s.bills.stored.length < 32)

/-- A granted reservation, with BILL_LOW and BILL_FULL as the free count falls (R177, R184). -/
def reserveSlot (s : State) : State :=
  let s' := { s with bills := { s.bills with reserved := true } }
  raiseIf (decide (freeSlots s' = 0)) .billFull (raiseIf (decide (5 ≤ freeSlots s ∧ freeSlots s' ≤ 4)) .billLow s')

/-- A release request (R178): without effect once the slot holds a claim identity, or when none is reserved. -/
def releaseSlot (s : State) : State :=
  if s.bills.identity.isSome then s else { s with bills := { s.bills with reserved := false } }

/-- The identity copied into the reserved slot when the poured mark is set (R179). -/
def copyIdentity (r : ClaimRec) (s : State) : State :=
  { s with bills := { s.bills with
      identity := some { plan := r.plan, tranche := r.tranche, hold := r.hold, seq := r.seq } } }

/-! ### The Spout Unit's requests -/

/-- A raise request (R154); without effect in RAISING, RAISED and (refused) JAMMED. -/
def raiseSpout (s : State) : State :=
  match s.spout.state with
  | .lowered => { s with spout := { s.spout with state := .raising, ms := some 0 } }
  | .lowering => { s with spout := { s.spout with state := .raising, ms := some 0 } }
  | _ => s

/-- A lower request is taken (R153): RAISED, travel STOPPED with the homing mark clear, in window, permit true. -/
def lowerTaken (s : State) : Bool :=
  s.spout.state == .raised && s.travel.state == .stopped && !s.travel.homing && inWindow s && permit s

def lowerSpout (s : State) : State :=
  if lowerTaken s then { s with spout := { s.spout with state := .lowering, ms := some 0 } } else s

/-- The Spout Unit's clear request (R155): none when it is refused, with neither or both limits active. -/
def clearSpout (s : State) : Option State :=
  match s.spout.state with
  | .jammed =>
    match s.pins.raised, s.pins.lowered with
    | true, false => some { s with spout := { state := .raised, jam := none, ms := none } }
    | false, true => some { s with spout := { state := .lowered, jam := none, ms := none } }
    | _, _ => none
  | _ => some s

end Sys2Proof.Machine
end

