-- ==== Sys2Proof/Machine/DustCore.lean ====
section
/-! DEFINITION. Shared operations of the Dust Monitor: head power and sampling states (R45 to R47), one reading of one
head (R48 to R51), ACK DUST on one head (R53). -/

namespace Sys2Proof.Machine

/-- Apply a function to every head with its index. -/
def mapHeads (f : Nat → Head → Head) : Nat → List Head → List Head
  | _, [] => []
  | k, h :: hs => f k h :: mapHeads f (k + 1) hs

/-- Turn every enabled head's power output on (R45, R46). -/
def powerOn (s : State) : State :=
  { s with dust := { s.dust with
      heads := mapHeads (fun k h => { h with power := h.power || headEnabled s k }) 0 s.dust.heads } }

/-- Turn off the power of every head that has no pending request (R46, R47). -/
def powerOffIdle (s : State) : State :=
  { s with dust := { s.dust with
      heads := mapHeads (fun k h => { h with power := h.power && samplePending s k }) 0 s.dust.heads } }

/-- Every power output is off. -/
def allOff (s : State) : Bool := s.dust.heads.all (fun h => !h.power)

/-- Enter SLEEPING with the sleep timer from zero, every power output off (R45). -/
def enterSleeping (s : State) : State :=
  { s with dust := { s.dust with
      sampling := .sleeping, wakeMs := none, sleepMs := some 0, warmMs := none,
      heads := mapHeads (fun _ h => { h with power := false }) 0 s.dust.heads } }

/-- Enter WAKING: heads on, wake window timer from zero (R45). -/
def enterWaking (s : State) : State :=
  let s := powerOn s
  { s with dust := { s.dust with sampling := .waking, wakeMs := some 0, sleepMs := none, warmMs := none } }

/-- Enter WARMING with the warm-up timer at a value (R46). -/
def enterWarming (warm : Nat) (s : State) : State :=
  let s := powerOn s
  { s with dust := { s.dust with sampling := .warming, wakeMs := none, sleepMs := none, warmMs := some warm } }

/-- Enter DRAINING: heads without a pending request go off; when all are off the state is SLEEPING (R46). -/
def enterDraining (s : State) : State :=
  let s := powerOffIdle s
  let s := { s with dust := { s.dust with sampling := .draining, wakeMs := none, sleepMs := none, warmMs := none } }
  if allOff s then enterSleeping s else s

/-- The test of the continuous condition at a change of the cycle state or of the exposure (R46). In WAKING the warm-up
timer takes the time the heads have been powered; once the wake window has ended that is at least the wake window. -/
def continuousTest (s : State) : State :=
  if !s.running then s
  else if continuousCondition s then
    match s.dust.sampling with
    | .sleeping => enterWarming 0 s
    | .waking => enterWarming (s.dust.wakeMs.getD (wakeWindow s)) s
    | .draining => enterWarming 0 s
    | _ => s
  else
    match s.dust.sampling with
    | .warming => enterDraining s
    | .continuous => enterDraining s
    | _ => s

/-- The enabled heads as converter inputs. -/
def enabledInputs (s : State) : List AdcInput :=
  [0, 1, 2, 3].filterMap (fun k : Fin 4 => if headEnabled s k.val then some (AdcInput.head k) else none)

/-- After the last reading of a sleep-mode sample, and as heads answer in DRAINING, the heads go off (R45, R46). -/
def afterReading (s : State) : State :=
  match s.dust.sampling with
  | .draining =>
    let s := powerOffIdle s
    if allOff s then enterSleeping s else s
  | .waking =>
    if s.dust.wakeMs.isNone && !(enabledInputs s).any (fun i => s.conv.requests.contains i) && !continuousCondition s
    then enterSleeping s else s
  | _ => s

/-- The average level from the level held and the new average (the table of R50). -/
def nextLevel (c : DustCfg) (held : DustLevel) (avg : Nat) : DustLevel :=
  match held with
  | .clear => if c.highOn ≤ avg then .high else if c.warnOn ≤ avg then .warn else .clear
  | .warn => if c.highOn ≤ avg then .high else if avg < c.warnOff then .clear else .warn
  | _ => if avg < c.warnOff then .clear else if avg < c.highOff then .warn else .high

/-- A reading enters the history, which keeps the last four (R48). -/
def pushReading (r : Nat) (history : List Nat) : List Nat :=
  (history ++ [r]).drop (history.length + 1 - 4)

/-- A reading is out of band (R51). -/
def outOfBand (r : Nat) : Bool := decide (r ≤ 8) || decide (4088 ≤ r)

/-- The fault flag and count after a reading (R51). -/
def faultStep (fault : Bool) (count : Nat) (r : Nat) : Bool × Nat :=
  if fault then
    if outOfBand r then (true, 0) else if count + 1 = 3 then (false, 0) else (true, count + 1)
  else
    if outOfBand r then (if count + 1 = 3 then (true, 0) else (false, count + 1)) else (false, 0)

/-- One head after one reading (R48 to R51). -/
def readHead (c : DustCfg) (r : Nat) (h : Head) : Head :=
  let history := pushReading r h.history
  let avg := history.sum / history.length
  let trips := decide (c.tripOn ≤ r)
  { h with
    history := history
    latch := h.latch || trips
    avgLevel := if trips then h.avgLevel else nextLevel c h.avgLevel avg
    fault := (faultStep h.fault h.faultCount r).1
    faultCount := (faultStep h.fault h.faultCount r).2 }

/-- A reading of head `k` is processed, with DUST_TRIP and HEAD_FAULT (R48 to R51). -/
def processReading (c : DustCfg) (k r : Nat) (s : State) : State :=
  let before := headAt s k
  let after := readHead c r before
  let s := { s with dust := { s.dust with heads := s.dust.heads.set k after } }
  raiseIf (!before.fault && after.fault) .headFault (raiseIf (!before.latch && after.latch) .dustTrip s)

/-- ACK DUST on one enabled head: a latch whose average is below warn_off clears (R53). -/
def ackHead (c : DustCfg) (h : Head) : Head :=
  match average h with
  | some avg => if h.latch && avg < c.warnOff then { h with latch := false, avgLevel := nextLevel c .clear avg } else h
  | none => h

end Sys2Proof.Machine
end

