-- ==== Sys2Proof/Machine/FeedCore.lean ====
section
/-! DEFINITION. Shared operations of the Feed Regulator (R24 to R38). -/

namespace Sys2Proof.Machine

/-- The clamp (R30): into [A_min, C_eff], the ceiling winning. -/
def clampAcc (accMin ceiling : Nat) (a : Int) : Nat := min ceiling (max accMin a.toNat)

/-- Clamp A at a change of C_eff while regulating (R31). -/
def clampFeed (s : State) : State :=
  match s.cfg.feed, cEff s with
  | some c, some ceiling =>
    if s.feed.mode = .shut then s
    else { s with feed := { s.feed with acc := clampAcc c.accMin ceiling s.feed.acc } }
  | _, _ => s

/-- Entry to SHUT (R25): the window restarts, A keeps its value. -/
def shutFeed (s : State) : State :=
  if s.feed.mode = .shut then s else { s with feed := { s.feed with mode := .shut, count := 0, mass := 0 } }

/-- The spill test is met (R36, R37); without a share it is not made. -/
def spillMet (s : State) : Bool :=
  match s.cfg.feed, s.feed.share with
  | some c, some p => decide (p ≤ s.scale.openGrams + c.spillKg * 1000)
  | _, _ => false

/-- The dribble test is met (R36, R38). -/
def dribbleMet (s : State) : Bool :=
  match s.cfg.feed, s.feed.share with
  | some c, some p => decide (p ≤ s.scale.openGrams + c.dribbleKg * 1000)
  | _, _ => false

/-- The spill test and then the dribble test (R24 step 5, R27 step 5). The flag says SPILL_POINT is told. -/
def endTests (s : State) : State × Bool :=
  if s.feed.mode = .shut || !s.scale.pourOpen then (s, false)
  else if spillMet s then (shutFeed s, true)
  else if s.feed.mode = .regulate && dribbleMet s then
    (clampFeed { s with feed := { s.feed with mode := .dribble } }, false)
  else (s, false)

/-- A regulate request carrying the pour share (R24). The flag says SPILL_POINT is told at the request. -/
def regulate (share : Nat) (s : State) : State × Bool :=
  match s.cfg.feed with
  | some c =>
    if s.feed.mode = .shut && s.scale.pourOpen then
      endTests (clampFeed { s with feed := { s.feed with
        share := some share, mode := .regulate, count := 0, mass := 0, acc := c.accStart } })
    else (s, false)
  | none => (s, false)

/-- The window target T, upper edge U and lower edge Lo (R29 step 2). -/
def windowFigures (c : FeedCfg) (f : Nat) : Nat × Nat × Nat :=
  let t := f * c.window * 125 / 9
  let half := t * c.band / 64
  (t, t + half, t - half)

/-- The step of a window of mass `g` (R29 step 3), before the clamp. -/
def windowStep (c : FeedCfg) (f g acc : Nat) : Int :=
  let w := windowFigures c f
  if w.2.1 < g then (acc : Int) - c.stepDown
  else if g < w.2.2 then (acc : Int) + c.stepUp
  else (acc : Int) + c.leak

/-- The window-end evaluation (R29). -/
def evaluateWindow (s : State) : State :=
  match s.cfg.feed, cEff s with
  | some c, some ceiling =>
    let f := s.feed.staged.getD (s.feed.setpoint.getD 0)
    { s with feed := { s.feed with
        setpoint := some f, staged := none, lastEval := some (windowFigures c f),
        acc := clampAcc c.accMin ceiling (windowStep c f s.feed.mass s.feed.acc), count := 0, mass := 0 } }
  | _, _ => s

/-- Steps 1 to 3 of R27: window mass, surge (R33), hold-off (R34). `credited`: the interval went to the open pour. -/
def feedGrams (credited : Bool) (g : Nat) (s : State) : State :=
  match s.cfg.feed, cEff s with
  | some c, some ceiling =>
    let counted := credited && s.feed.mode ≠ .shut
    let s := if counted then { s with feed := { s.feed with mass := s.feed.mass + g, count := s.feed.count + 1 } } else s
    if counted && decide (c.surgeGrams < g) && s.feed.holdoff = 0 then
      { s with feed := { s.feed with
          acc := clampAcc c.accMin ceiling ((s.feed.acc : Int) - c.surgeStep), holdoff := c.surgeHold, surge := true } }
    else { s with feed := { s.feed with holdoff := s.feed.holdoff - 1 } }
  | _, _ => s

/-- The window counter has reached W while regulating (R27 step 4). -/
def windowFull (s : State) : Bool :=
  match s.cfg.feed with
  | some c => s.feed.mode ≠ .shut && decide (c.window ≤ s.feed.count)
  | none => false

/-- R27 whole. The flag says SPILL_POINT is told. -/
def feedInterval (credited : Bool) (g : Nat) (s : State) : State × Bool :=
  let s := feedGrams credited g s
  endTests (if windowFull s then evaluateWindow s else s)

end Sys2Proof.Machine
end

