-- ==== Sys2Proof/Machine/QueueCore.lean ====
section
/-! DEFINITION. The transmit queue (R74 to R77) and the QLI's counters (R79). -/

namespace Sys2Proof.Machine

/-- A 16-bit counter saturating at 65,535 (R79). -/
def count16 (n : Nat) : Nat := satAdd 65535 n 1

/-- A frame newly queued. -/
def freshEntry (f : Frame) : TxEntry := { frame := f, onLine := none, renewed := false, withdrawn := false }

/-- Queue order (R74): by class, oldest first within one class. -/
def insertEntry (e : TxEntry) : List TxEntry → List TxEntry
  | [] => [e]
  | x :: xs => if x.frame.cls ≤ e.frame.cls then x :: insertEntry e xs else e :: x :: xs

/-- A new frame replaces a queued one in place (R75): BEACON, SPAN, and TALLY of the same tranche. -/
def replaces (new old : Frame) : Bool :=
  match new, old with
  | .beacon .., .beacon .. => true
  | .span .., .span .. => true
  | .tally _ t _ _, .tally _ t' _ _ => t == t'
  | _, _ => false

/-- The entry takes the new content; on the line it is renewed (R75). -/
def replaceEntry (f : Frame) (e : TxEntry) : TxEntry :=
  if replaces f e.frame then { e with frame := f, renewed := e.renewed || e.onLine.isSome } else e

/-- The highest class among the queued frames other than the one on the line (R76). -/
def worstClass (q : List TxEntry) : Nat :=
  q.foldl (fun acc e => if e.onLine.isNone then max acc e.frame.cls else acc) 0

/-- The least urgent frame: the oldest of that class not on the line (R76). -/
def isLeastUrgent (q : List TxEntry) (e : TxEntry) : Bool := e.onLine.isNone && e.frame.cls == worstClass q

/-- Hand a frame to the queue (R64, R75, R76, R78): the state after, and the frame that is dropped, if one is. -/
def place (f : Frame) (s : State) : State × Option Frame :=
  if s.qli.clash then (s, some f)
  else if s.qli.queue.any (fun e => replaces f e.frame) then
    ({ s with qli := { s.qli with queue := s.qli.queue.map (replaceEntry f) } }, none)
  else if s.qli.queue.length < 6 then
    ({ s with qli := { s.qli with queue := insertEntry (freshEntry f) s.qli.queue } }, none)
  else if f.cls < worstClass s.qli.queue then
    ({ s with qli := { s.qli with
        queue := insertEntry (freshEntry f) (s.qli.queue.eraseP (isLeastUrgent s.qli.queue)),
        txDrop := count16 s.qli.txDrop } },
      (s.qli.queue.find? (isLeastUrgent s.qli.queue)).map (fun e => e.frame))
  else ({ s with qli := { s.qli with txDrop := count16 s.qli.txDrop } }, some f)

/-- The entry on the line, if one is. -/
def lineEntry (s : State) : Option TxEntry := s.qli.queue.find? (fun e => e.onLine.isSome)

/-- The head of the queue goes onto the line when RUN has been accepted, the clash flag is clear and the queue is not
empty (R65). -/
def offerHead (s : State) : State :=
  if s.running && !s.qli.clash && txdIdle s then
    match s.qli.queue with
    | e :: rest => { s with qli := { s.qli with queue := { e with onLine := some e.frame } :: rest } }
    | [] => s
  else s

/-- The frame on the line leaves it and stays queued; marked withdrawn it leaves the queue (R66, R67, R77). -/
def takeOffLine (s : State) : State :=
  { s with qli := { s.qli with
      queue := (s.qli.queue.filter (fun e => !(e.onLine.isSome && e.withdrawn))).map
        (fun e => { e with onLine := none, renewed := false }) } }

/-- The frame heard as own echo leaves the queue, unless it was renewed on the line (R68). -/
def echoLeaves (s : State) : State :=
  { s with qli := { s.qli with
      queue := (s.qli.queue.filter (fun e => !(e.onLine.isSome && !e.renewed))).map
        (fun e => { e with onLine := none, renewed := false }) } }

/-- Where a queued CLAIM stands (R77). -/
inductive ClaimPlace where
  | queued
  | onLine
  | gone
  deriving DecidableEq, Repr

/-- A frame is a CLAIM. -/
def Frame.isClaim : Frame → Bool
  | .claim .. => true
  | _ => false

/-- The answer to a withdrawal request (R77). -/
def claimPlace (s : State) : ClaimPlace :=
  match s.qli.queue.find? (fun e => e.frame.isClaim) with
  | some e => if e.onLine.isSome then .onLine else .queued
  | none => .gone

/-- Remove the queued CLAIM (R77, first row). -/
def removeClaim (s : State) : State :=
  { s with qli := { s.qli with queue := s.qli.queue.filter (fun e => !(e.frame.isClaim && e.onLine.isNone)) } }

/-- Mark the CLAIM on the line withdrawn (R77, second row). -/
def markClaim (s : State) : State :=
  { s with qli := { s.qli with
      queue := s.qli.queue.map (fun e => if e.frame.isClaim && e.onLine.isSome then { e with withdrawn := true } else e) } }

end Sys2Proof.Machine
end

