-- ==== Sys2Proof/Machine/Notices.lean ====
section
/-! DEFINITION. Changes of cycle state (R158, R160), the loss of a pending claim (R123 to R126), the handing over of
frames with the notice "dropped" to their owners (R64, R76, R129, R146), and the withdrawal of a pending claim (R77, R124). -/

namespace Sys2Proof.Machine

/-- The attendance time is not 0 (R160). -/
def attended (s : State) : Bool :=
  match s.cfg.lines with
  | some c => decide (c.attendance ≠ 0)
  | none => false

/-- The attendance timer from zero, when it is in use (R160). -/
def restartAttendance (s : State) : State :=
  { s with cycle := { s.cycle with attendMs := if attended s then some 0 else none } }

/-- A change of cycle state: the attendance timer starts at a departure from IDLE and stops at an entry to IDLE, which
also clears the ending marker (R160, R167); the Dust Monitor tests its continuous condition (R46). -/
def setCycle (c : CycleState) (s : State) : State :=
  let s :=
    if c = .idle then { s with cycle := { s.cycle with ending := false, attendMs := none } }
    else if s.cycle.state = .idle then restartAttendance s
    else s
  continuousTest { s with cycle := { s.cycle with state := c } }

/-- WITHDRAWING ends when the spout is RAISED, no pour is open or pending and the claim state is NONE (R167). -/
def withdrawCheck (s : State) : State :=
  if s.cycle.state = .withdrawing && s.spout.state = .raised && !pourBegun s && s.claim.state = .none then
    setCycle .idle s
  else s

/-- LOST: in CLAIMING the cycle returns to IDLE and the withdraw marker clears (R162, R172); in WITHDRAWING the claim's
end may be the last of the three conditions of R167. -/
def cycleLost (s : State) : State :=
  if s.cycle.state = .claiming then
    setCycle .idle { s with cycle := { s.cycle with withdrawMark := false } }
  else withdrawCheck s

/-- The claim state NONE, every record field absent; the TRIM cause clears with the claim (R118, R134). -/
def claimGone (s : State) : State :=
  { s with claim := { s.claim with state := .none, own := none, trim := false } }

/-- A pending claim ends: NONE, the slot released, CLAIM_LOST, LOST told (R123, R124, R126). -/
def claimLost (s : State) : State := cycleLost (raise .claimLost (releaseSlot (claimGone s)))

/-- The body SPAN handed over by the Travel Unit as it falls back to WAITING; a SPAN is dropped at most for itself or
for a frame of a higher class, whose owners act on no drop (R76, R146). -/
def placeBody (s : State) : State := (place (.span (body s).lo (body s).hi) s).1

/-- The frame is the CLOSE of the own claim in CLOSING (R128, R129); a copy left in the queue by an earlier claim is not. -/
def isOwnClose (f : Frame) (s : State) : Bool :=
  decide (s.claim.state = .closing) && s.claim.own.any (fun r => r.closeFrame == some f)

/-- The notice "dropped" to the block that queued the frame (R64): the Claim Unit for a CLAIM (R126) and its own CLOSE
(R129), the Travel Unit for the move span's SPAN (R146). A dropped takeover CLOSE, DUST, BEACON, TALLY or NOTE is acted
on by no one (R54, R114, R131, R135, R174). -/
def dropNotice (f : Frame) (s : State) : State :=
  match f with
  | .claim .. => if s.claim.state = .pending then claimLost s else s
  | .close .. =>
    if isOwnClose f s then
      { s with claim := { s.claim with own := s.claim.own.map (fun r => { r with resend := true }) } }
    else s
  | .span .. =>
    if s.travel.state = .reserving then
      placeBody { s with travel := { s.travel with state := .waiting, moveSpan := none } }
    else s
  | _ => s

/-- The notice of the frame dropped at a handing over, when one was (R64, R76). -/
def tellDrop (dropped : Option Frame) (s : State) : State :=
  match dropped with
  | some f => dropNotice f s
  | none => s

/-- An owner hands a frame to the QLI; a frame dropped for it, or dropped itself, gives its notice at once (R64, R76). -/
def enqueue (f : Frame) (s : State) : State := tellDrop (place f s).2 (place f s).1

/-- The Claim Unit asks for its pending CLAIM back (R77, R124, R125). -/
def withdrawClaim (s : State) : State :=
  if s.claim.state = .pending then
    match claimPlace s with
    | .queued => claimLost (removeClaim s)
    | .onLine =>
      let s := markClaim s
      { s with claim := { s.claim with own := s.claim.own.map (fun r => { r with withdrawMark := true }) } }
    | .gone => s
  else s

/-- The fields of a DUST frame as they stand (section 3.5). -/
def dustFrame (s : State) : Frame :=
  .dust (stationLevel s) (tripCount s) s.travel.referenced (position s)

/-- A DUST frame is handed over; the repeat count returns to 0 (R54). -/
def sendDust (s : State) : State :=
  let s := enqueue (dustFrame s) s
  { s with dust := { s.dust with repeatCount := 0 } }

/-- At a change of the reported level or of the trip count a DUST frame is handed over; the clear repeats follow the
change of level (R54). `level` and `trips` are those before. -/
def announceDust (level : DustLevel) (trips : Nat) (s : State) : State :=
  if stationLevel s = level && tripCount s = trips then s
  else
    let repeats :=
      if stationLevel s = level then s.dust.clearRepeats else if stationLevel s = .clear then 2 else 0
    sendDust { s with dust := { s.dust with clearRepeats := repeats } }

end Sys2Proof.Machine
end

