-- ==== Sys2Proof/Machine/TravelCore.lean ====
section
/-! DEFINITION. Shared operations of the Travel Unit: spans, drive, faults, reservations, moves, arrival and overshoot,
late conflicts and stops (R140 to R150). They hand over SPAN frames and raise TRAVEL_FAULT; the Cycle Controller is
told by the operations of Machine/CycleCore.lean and Machine/Chains.lean. -/

namespace Sys2Proof.Machine

/-- The own span is handed over in a SPAN (R143); before RUN no frame is (R78). -/
def handSpan (s : State) : State :=
  match s.running, ownSpan s with
  | true, some sp => enqueue (.span sp.lo sp.hi) s
  | _, _ => s

/-- A SPAN is handed over when the own span differs from the one before (R143). -/
def handSpanIfChanged (before : Option Stretch) (s : State) : State :=
  if ownSpan s = before then s else handSpan s

/-- A move is under way: RESERVING, MOVING or CREEPING without the homing mark (R148). -/
def moveUnderWay (s : State) : Bool :=
  match s.travel.state with
  | .reserving => true
  | .moving => true
  | .creeping => !s.travel.homing
  | _ => false

/-- A homing search is under way (R141). -/
def homingUnderWay (s : State) : Bool := s.travel.state == .creeping && s.travel.homing

/-- The tower parks: a travel state with the body as span, drive off, no hold, timers stopped (R143). -/
def parked (st : TravelState) (t : Travel) : Travel :=
  { t with
    state := st, homing := false, drive := .off, moveSpan := none, held := false, holdTicks := 0,
    correcting := false, stallMs := none, restMs := none }

/-- Without a move there is no target and no target hold (R156), and no approach side: DESIGN CHOICE (log 59). -/
def noTarget (t : Travel) : Travel := { t with targetHold := none, target := none, approach := none }

/-- Entry to FAULTED, from any cause (R148). -/
def faultTravel (c : TravelFault) (s : State) : State :=
  raise .travelFault
    (handSpan { s with travel := { noTarget (parked .faulted s.travel) with fault := some c } })

/-- A proximity switch on a side is active (R142). -/
def proxActive (s : State) : Dir → Bool
  | .low => s.pins.proxLo
  | .high => s.pins.proxHi

/-- The side the drive runs toward. -/
def Drive.dir : Drive → Option Dir
  | .off => none
  | .creep d => some d
  | .fast d => some d

/-- The drive runs toward an active proximity switch: FAULTED with cause PROX (R142). -/
def proxTest (s : State) : State :=
  match s.travel.drive.dir with
  | some d => if proxActive s d then faultTravel .prox s else s
  | none => s

/-- The side of a target on which a position stands; at the target itself HIGH: DESIGN CHOICE (log 46). -/
def sideOf (x target : Nat) : Dir := if x < target then .low else .high

/-- From a side of the target, the direction toward it. -/
def otherSide : Dir → Dir
  | .low => .high
  | .high => .low

/-- The drive of a travel state toward a direction: fast in MOVING, creep otherwise (section 8.5). -/
def driveOf (st : TravelState) (d : Dir) : Drive := if st = .moving then .fast d else .creep d

/-- The drive starts toward the target from the side the tower stands on, at the state's speed; the stall timer starts
and the proximity switch is tested (R142, R147, R148). -/
def startDrive (target : Nat) (s : State) : State :=
  let side := sideOf (position s) target
  proxTest { s with travel := { s.travel with
    drive := driveOf s.travel.state (otherSide side), approach := some side, correcting := false, stallMs := some 0,
    restMs := none } }

/-- DRV_EN: the drive runs (R196). -/
def drvEn (s : State) : Bool := s.travel.drive.dir.isSome

/-- DRV_DIR: high while the drive runs toward HIGH; no level is stated with the drive off (R196). -/
def drvDir (s : State) : Option Bool := s.travel.drive.dir.map (fun d => decide (d = .high))

/-- DRV_FAST: high at fast speed, low at creep; no level is stated with the drive off (R196). -/
def drvFast (s : State) : Option Bool :=
  match s.travel.drive with
  | .off => none
  | .creep _ => some false
  | .fast _ => some true

/-- Within the arrival tolerance of a target (R144, R147). -/
def withinTolerance (s : State) (target : Nat) : Bool := decide (dist (position s) target ≤ (rail s).arrivalTol)

/-- The tower lies more than the tolerance beyond the target, seen from its approach side (R147). -/
def beyond (s : State) (target : Nat) : Bool :=
  match s.travel.approach with
  | some .low => decide (target + (rail s).arrivalTol < position s)
  | some .high => decide (position s + (rail s).arrivalTol < target)
  | none => false

/-- The move formula (R143) from a position to a target. -/
def moveFormula (s : State) (x target : Nat) : Stretch :=
  stretchOf (((min x target : Nat) : Int) - (rail s).half - (rail s).arrivalTol)
    (((max x target : Nat) : Int) + (rail s).half + (rail s).arrivalTol)

/-- A target lies within [rail min + half-length, rail max − half-length] (R144, R151). -/
def targetOnRail (s : State) (target : Nat) : Bool :=
  decide ((rail s).railMin + (rail s).half ≤ target) && decide (target + (rail s).half ≤ (rail s).railMax)

/-- The reservation check (R145): success sets the move span, hands its SPAN over and enters RESERVING; failure leaves
the tower WAITING with its body. The target is kept; the approach side is absent until the drive starts: DESIGN CHOICE
(log 59). -/
def reservationCheck (target : Nat) (s : State) : State :=
  let sp := moveFormula s (position s) target
  if !s.qli.degraded && (overlapping s sp).isEmpty then
    handSpan { s with travel := { parked .reserving s.travel with moveSpan := some sp, approach := none } }
  else { s with travel := { parked .waiting s.travel with approach := none } }

/-- The tower gives the rail back and tries again at once: body SPAN, then the check (R149, R151). -/
def yieldRail (s : State) : State :=
  match s.travel.target with
  | some t => reservationCheck t (handSpan { s with travel := { parked .waiting s.travel with approach := none } })
  | none => s

/-- The reasons a move request is refused with (R144). -/
inductive MoveRefusal where
  | busy
  | faulted
  | unreferenced
  | spout
  | noHold
  | target
  deriving DecidableEq, Repr

/-- The answer to a move request (R144). -/
inductive MoveAnswer where
  | refused (reason : MoveRefusal)
  | arrived
  | underWay
  deriving DecidableEq, Repr

/-- The conditions on which a move request to a hold is taken, in order: the target, or the reason of the first that fails
(R144). -/
def moveTarget (s : State) (hold : Nat) : Except MoveRefusal Nat :=
  if s.travel.state = .faulted then .error .faulted
  else if s.travel.state ≠ .stopped || s.travel.homing then .error .busy
  else if !s.travel.referenced then .error .unreferenced
  else if s.spout.state ≠ .raised then .error .spout
  else
    match findHold s hold with
    | some h => if targetOnRail s (hatchCentre s h) then .ok (hatchCentre s h) else .error .target
    | none => .error .noHold

/-- A move request to a hold (R144). -/
def requestMove (hold : Nat) (s : State) : State × MoveAnswer :=
  match moveTarget s hold with
  | .error r => (s, .refused r)
  | .ok t =>
    let s := { s with travel := { s.travel with overshoots := 0 } }
    if withinTolerance s t then (s, .arrived)
    else
      (reservationCheck t { s with travel := { s.travel with targetHold := some hold, target := some t } }, .underWay)

/-- A stop request (R150). -/
def stopTravel (s : State) : State :=
  match s.travel.state with
  | .stopped => s
  | .faulted => s
  | _ =>
    handSpanIfChanged (ownSpan s) { s with travel := noTarget (parked .stopped s.travel) }

/-- The Travel Unit's clear request (R148); without effect outside FAULTED. -/
def clearTravel (s : State) : State :=
  if s.travel.state = .faulted then
    { s with travel := { s.travel with state := .stopped, fault := none, overshoots := 0 } }
  else s

/-- Entry to the creep zone (R147): CREEPING, a running drive slows to creep. -/
def creepEntry (target : Nat) (s : State) : State :=
  if s.travel.state = .moving && decide (dist (position s) target ≤ (rail s).creepZone) then
    { s with travel := { s.travel with
        state := .creeping,
        drive := match s.travel.drive with
          | .fast d => .creep d
          | d => d } }
  else s

/-- An overshoot (R147): the first is corrected once the tower is at rest, the second faults. One found in MOVING enters
CREEPING for its correction: DESIGN CHOICE (log 47). -/
def overshoot (s : State) : State :=
  if 1 ≤ s.travel.overshoots then
    faultTravel .overshoot { s with travel := { s.travel with overshoots := s.travel.overshoots + 1 } }
  else
    { s with travel := { s.travel with
        state := .creeping, drive := .off, stallMs := none, restMs := some 0,
        overshoots := s.travel.overshoots + 1, correcting := true } }

/-- The tower coasts: drive off, the rest time runs (R147). It runs from the coast's beginning, not from the last edge:
DESIGN CHOICE (log 55). -/
def coast (s : State) : State :=
  { s with travel := { s.travel with
      drive := .off, stallMs := none, restMs := some (s.travel.restMs.getD 0) } }

/-- The creep zone, arrival and overshoot tests of R147 on the position and target as they stand. While a correction is
awaited there is no second overshoot (log 23), nor after a mooring shift: DESIGN CHOICE (log 24). -/
def travelTests (s : State) : State :=
  match s.travel.target with
  | none => s
  | some t =>
    if (s.travel.state = .moving || s.travel.state = .creeping) && !s.travel.homing then
      let s := creepEntry t s
      if beyond s t && !s.travel.correcting then overshoot s
      else if s.travel.state = .creeping && withinTolerance s t then coast s
      else s
    else s

/-- The move span narrows behind the advancing tower (R143). -/
def shrinkSpan (s : State) : State :=
  match s.travel.target, s.travel.moveSpan with
  | some t, some sp =>
    if (s.travel.state = .moving || s.travel.state = .creeping) && !s.travel.homing then
      let f := moveFormula s (position s) t
      if f.within sp then { s with travel := { s.travel with moveSpan := some f } } else s
    else s
  | _, _ => s

/-- The relative travel of the homing search has reached the home search (R141). -/
def searchEnds (s : State) : Bool :=
  match s.travel.searchStart with
  | some x => homingUnderWay s && decide ((rail s).homeSearch ≤ dist (position s) x)
  | none => false

/-- The position lies outside the own span during a move or a homing search (R148). -/
def outsideSpan (s : State) : Bool :=
  (moveUnderWay s || homingUnderWay s) &&
    match ownSpan s with
    | some sp => !sp.holds (position s)
    | none => false

/-- What the Travel Unit does at a change of the whole-centimetre position: the span follows, and the search distance,
span exit, creep, arrival and overshoot tests are made (R141, R143, R147, R148). A homing tower that reaches the search
length and leaves its span at one centimetre faults with STALL: DESIGN CHOICE (log 54). -/
def positionMoved (before : Option Stretch) (s : State) : State :=
  let s := handSpanIfChanged before (shrinkSpan s)
  if searchEnds s then faultTravel .stall s
  else if outsideSpan s then faultTravel .spanExit s
  else travelTests s

/-- The notice "sent" for the SPAN that carries the move span, not renewed (R146): the drive starts toward the target,
unless the tower already stands within tolerance, where it only coasts to its arrival (log 23). -/
def moveSpanSent (s : State) : State :=
  match s.travel.state, s.travel.target with
  | .reserving, some t =>
    let st : TravelState := if dist (position s) t ≤ (rail s).creepZone then .creeping else .moving
    let s := { s with travel := { s.travel with state := st, approach := some (sideOf (position s) t) } }
    if withinTolerance s t then coast s else startDrive t s
  | _, _ => s

/-- The move is arrived (R147). -/
def arrive (s : State) : State := handSpan { s with travel := noTarget (parked .stopped s.travel) }

/-- The drive is off because the tower coasts to its rest (R147). -/
def coasting (s : State) : Bool := s.travel.restMs.isSome

/-- A held move goes on when the overlap has gone (R149): the drive restarts unless the tower coasts. -/
def endHold (s : State) : State :=
  let s := { s with travel := { s.travel with held := false, holdTicks := 0 } }
  match s.travel.target with
  | some t => if coasting s then s else startDrive t s
  | none => s

/-- A move is held: drive off, stall timer stopped, state and span kept (R149). -/
def beginHold (s : State) : State :=
  { s with travel := { s.travel with held := true, holdTicks := 0, drive := .off, stallMs := none } }

/-- A blocking interval overlaps the own move span (R149). -/
def overlapStands (s : State) : Bool :=
  match s.travel.moveSpan with
  | some sp => !(overlapping s sp).isEmpty
  | none => false

/-- The late conflict (R149) and its end, for a move in MOVING or CREEPING. -/
def lateConflict (s : State) : State :=
  match s.travel.moveSpan with
  | none => s
  | some sp =>
    let overlap := overlapping s sp
    if overlap.isEmpty then (if s.travel.held then endHold s else s)
    else if overlap.any (fun i => decide (i < s.station)) then yieldRail s
    else if s.travel.held then s
    else beginHold s

/-- The Travel Unit's answer to a Peer Table notice of changed blocking intervals (R145, R146, R149). -/
def onBlocking (s : State) : State :=
  match s.travel.state, s.travel.target with
  | .waiting, some t => reservationCheck t s
  | .reserving, some _ =>
    match s.travel.moveSpan with
    | some sp =>
      if (overlapping s sp).isEmpty then s
      else handSpan { s with travel := { parked .waiting s.travel with approach := none } }
    | none => s
  | .moving, some _ => lateConflict s
  | .creeping, some _ => if s.travel.homing then s else lateConflict s
  | _, _ => s

/-- A WAITING move repeats its check (R145). -/
def recheckWaiting (s : State) : State :=
  match s.travel.state, s.travel.target with
  | .waiting, some t => reservationCheck t s
  | _, _ => s

/-- 200 ms without an edge (R147): arrived within tolerance, else the drive starts again at creep toward the target from
the side the tower stands on; a held move stays off until its hold ends. -/
def atRest (s : State) : State × Bool :=
  match s.travel.target with
  | none => (s, false)
  | some t =>
    if withinTolerance s t then (arrive s, true)
    else if s.travel.held then ({ s with travel := { s.travel with restMs := none } }, false)
    else (startDrive t s, false)

end Sys2Proof.Machine
end

