-- ==== Sys2Proof/Machine/CycleCore.lean ====
section
/-! DEFINITION. Shared operations of the Claim Unit's end (R128, R129) and of the Cycle Controller: regulation, pauses,
settling, withdrawing, positioning, halts (R162 to R173). -/

namespace Sys2Proof.Machine

/-! ### The end of a held claim -/

/-- The settled kg of a tranche on the own board. -/
def boardSettled (s : State) (k : Nat) : Nat :=
  match findTranche s k with
  | some t => t.settled
  | none => 0

/-- The CLOSE of the own claim with an outcome and a final figure (R128). -/
def closeFrameOf (s : State) (r : ClaimRec) (o : CloseOutcome) (kg : Nat) : Frame :=
  .close r.plan r.tranche r.seq o s.station (satAdd (maxOf 32) (boardSettled s r.tranche) kg)

/-- Enter CLOSING and hand the CLOSE over (R126, R128). The CLAIM has left the line, and the withdrawal mark with it (R118). -/
def handClose (r : ClaimRec) (f : Frame) (s : State) : State :=
  enqueue f { s with claim := { s.claim with
    state := .closing, own := some { r with withdrawMark := false, endRequest := none, closeFrame := some f, resend := false },
    trim := false } }

/-- The Cycle Controller's end request (R128): completed at once without a pour or after its close, else kept; refused
outside HELD or while one is kept. -/
def endClaim (o : CloseOutcome) (s : State) : State :=
  match s.claim.state, s.claim.own with
  | .held, some r =>
    if !r.poured then
      let s := releaseSlot s
      handClose r (closeFrameOf s r o 0) s
    else
      match r.closedKg with
      | some kg => if r.endRequest.isSome then s else handClose r (closeFrameOf s r o kg) s
      | none =>
        if r.endRequest.isSome then s
        else { s with claim := { s.claim with own := some { r with endRequest := some o } } }
  | _, _ => s

/-! ### Leaving the hatch -/

/-- Entry to WITHDRAWING: a stop request and, unless RAISED, a raise request (R167). -/
def enterWithdrawing (s : State) : State := withdrawCheck (setCycle .withdrawing (raiseSpout (stopTravel s)))

/-- The ending marker is set (R158). -/
def markEnding (s : State) : State := { s with cycle := { s.cycle with ending := true } }

/-- The claim is given back RELEASED and the tower withdraws (R162, R163, R171, R172). -/
def releaseAndWithdraw (s : State) : State := enterWithdrawing (markEnding (endClaim .released s))

/-- SETTLING with an outcome, the settle timer from zero (R166). -/
def startSettle (o : SettleOutcome) (s : State) : State :=
  setCycle .settling { s with cycle := { s.cycle with settleOutcome := some o, settleMs := some 0 } }

/-- A withdrawal from a hatch: through a settle for WITHDRAWN when a pour is open or pending, else at once (R163, R171,
R172). -/
def withdrawPour (s : State) : State :=
  if pourBegun s then startSettle .withdrawn s else releaseAndWithdraw s

/-! ### Halts -/

/-- The pour record's last halt cause follows each cause that arises while a pour is open (R164). -/
def recordHalt (c : HaltCause) (s : State) : State :=
  if s.scale.pourOpen then { s with cycle := { s.cycle with lastHalt := some c } } else s

/-- Entry to HALTED (R169): SHUT, stop, reverse a lowering, HALTED raised; the Claim Unit withdraws a pending claim. The
standing set begins with the cause that enters; a jam or fault that arose in IDLE does not join: DESIGN CHOICE (log 50). -/
def enterHalted (c : HaltCause) (s : State) : State :=
  let s := stopTravel (shutFeed (recordHalt c s))
  let s := if s.spout.state = .lowering then raiseSpout s else s
  let s := setCycle .halted { s with cycle := { s.cycle with
    causes := [c], haltCause := some c, lapseAnswered := false } }
  withdrawClaim (raise .halted s)

/-- A cause joins the standing set in HALTED and raises HALTED again; one that stands adds nothing, but an answered
HOST_LAPSE is gone and stands anew (R160, R168, log 20). -/
def addCause (c : HaltCause) (s : State) : State :=
  if s.cycle.causes.contains c && !(c = .hostLapse && s.cycle.lapseAnswered) then s
  else
    let s := recordHalt c s
    raise .halted { s with cycle := { s.cycle with
      causes := if s.cycle.causes.contains c then s.cycle.causes else s.cycle.causes ++ [c],
      lapseAnswered := if c = .hostLapse then false else s.cycle.lapseAnswered } }

/-- Causes that halt the station in IDLE too (R168). -/
def haltsIdle : HaltCause → Bool
  | .ownTrip => true
  | .stationClash => true
  | _ => false

/-- A halt cause is raised (R168). -/
def raiseHalt (c : HaltCause) (s : State) : State :=
  match s.cycle.state with
  | .halted => addCause c s
  | .idle => if haltsIdle c then enterHalted c s else s
  | _ => enterHalted c s

/-- A cause found at RUN halts the station from IDLE and joins the set (R175). -/
def haltAtRun (c : HaltCause) (s : State) : State :=
  match s.cycle.state with
  | .halted => addCause c s
  | _ => enterHalted c s

/-- OWN_TRIP is gone when the exposure falls below TRIP (R168). -/
def removeCause (c : HaltCause) (s : State) : State :=
  { s with cycle := { s.cycle with causes := s.cycle.causes.filter (· != c) } }

/-- BELT_STALL: the gate code is non-zero while the belt-moving flag is false (R168). -/
def beltStallTest (s : State) : State :=
  if gateCode s ≠ 0 && !s.scale.beltMoving then raiseHalt .beltStall s else s

/-- The halt cause of a jam (R155). -/
def jamHalt : JamCause → HaltCause
  | .timeout => .spoutJam
  | .drift => .spoutDrift

/-- TRAVEL_FAULT is told on an entry to FAULTED (R148, R168). `before` is the travel state before the operation. -/
def tellFault (before : TravelState) (s : State) : State :=
  if before ≠ .faulted && s.travel.state = .faulted then raiseHalt .travelFault s else s

/-! ### Pouring, pauses -/

/-- The pour share in grams (R164). -/
def pourShare (s : State) : Nat :=
  match s.claim.own with
  | some r =>
    match findTranche s r.tranche with
    | some t => (t.target - t.settled) * 1000
    | none => 0
  | none => 0

/-- POURING with a regulate request, SETTLING at once on SPILL_POINT, or PAUSED when a pause cause stands (R164, R166). -/
def enterPour (s : State) : State :=
  if pauseStands s then setCycle .paused s
  else
    let r := regulate (pourShare s) (setCycle .pouring s)
    if r.2 then startSettle .done r.1 else beltStallTest r.1

/-- DUST_PAUSED and TRIM_PAUSED are set while their causes stand and a pour is open (R164). -/
def recordPauses (s : State) : State :=
  if s.scale.pourOpen then
    { s with cycle := { s.cycle with
        dustPaused := s.cycle.dustPaused || nearTripStands s, trimPaused := s.cycle.trimPaused || s.claim.trim } }
  else s

/-- The controller follows its pause causes (R165). -/
def pauseUpdate (s : State) : State :=
  let s := recordPauses s
  match s.cycle.state with
  | .pouring => if pauseStands s then raise .paused (setCycle .paused (shutFeed s)) else s
  | .paused => if pauseStands s then s else enterPour s
  | _ => s

/-- SPILL_POINT told by the regulator (R166). -/
def spillTold (s : State) : State := if s.cycle.state = .pouring then startSettle .done s else s

/-! ### Positioning -/

/-- The spout LOWERED in POSITIONING (R164): an opening request when no pour is begun, setting the poured mark and the
slot's identity (R118, R179); POURING or PAUSED when a pour is open. -/
def atHatch (s : State) : State :=
  if s.scale.pourOpen then enterPour s
  else if s.scale.pendingOpen then s
  else
    let s := requestOpening s
    match s.claim.state, s.claim.own with
    | .held, some r =>
      copyIdentity r { s with claim := { s.claim with own := some { r with poured := true } } }
    | _, _ => s

/-- A move request to the claimed hold (R162, R163): refused, the tranche is given back; arrived, a lower request. -/
def moveToHatch (s : State) : State :=
  match s.claim.own with
  | some r =>
    match (requestMove r.hold s).2 with
    | .refused _ => withdrawPour (requestMove r.hold s).1
    | .arrived => lowerSpout (requestMove r.hold s).1
    | .underWay => (requestMove r.hold s).1
  | none => s

/-- POSITIONING acts on the conditions as they stand, with the travel STOPPED and the spout RAISED (R163). -/
def positionAct (s : State) : State :=
  if s.cycle.state = .positioning && s.travel.state = .stopped && s.spout.state = .raised then
    if inWindow s then lowerSpout s else moveToHatch s
  else s

/-- ARRIVED (R163). -/
def cycleArrived (s : State) : State := if s.cycle.state = .positioning then lowerSpout s else s

/-- STOPPED with cause TARGET (R163). -/
def cycleOffRail (s : State) : State := if s.cycle.state = .positioning then withdrawPour s else s

/-- A change of the spout state told to the Cycle Controller (R163, R164, R167). -/
def cycleSpout (s : State) : State :=
  match s.cycle.state, s.spout.state with
  | .positioning, .lowered => atHatch s
  | .positioning, .raised => positionAct s
  | .withdrawing, .raised => withdrawCheck s
  | _, _ => s

/-- PENDING (R162): CLAIMING. -/
def cyclePending (s : State) : State := if s.cycle.state = .idle then setCycle .claiming s else s

/-- The entry to CLAIMING under a jam or travel fault halts the station at once (R162). With both standing the jam is the one
cause raised: DESIGN CHOICE (log 49). -/
def claimingFaults (s : State) : State :=
  if s.cycle.state = .claiming then
    match s.spout.state, s.spout.jam with
    | .jammed, some j => raiseHalt (jamHalt j) s
    | _, _ => if s.travel.state = .faulted then raiseHalt .travelFault s else s
  else s

/-- WON (R162). -/
def cycleWon (s : State) : State :=
  if s.cycle.state = .claiming then
    if s.cycle.withdrawMark then
      releaseAndWithdraw { s with cycle := { s.cycle with withdrawMark := false } }
    else moveToHatch (setCycle .positioning s)
  else s

/-! ### Claims taken away, hatches lost -/

/-- The answer to YIELDED, TAKEN_OVER and HATCH_LOST (R173). -/
def endPour (o : PourOutcome) (s : State) : State :=
  if s.cycle.state = .withdrawing || s.cycle.state = .idle then s
  else
    let s := shutFeed { s with cycle := { s.cycle with settleMs := none, settleOutcome := none } }
    let s := requestClosing o s
    let s := markEnding (if o = .hatchLost then endClaim .released s else s)
    if s.cycle.state = .halted then s else enterWithdrawing s

/-- The board took the held claim away (R130): the Cycle Controller is told, no CLOSE is queued, the record goes, and
the slot is released when no pour was asked for. -/
def claimTaken (o : PourOutcome) (e : Event) (s : State) : State :=
  match s.claim.state, s.claim.own with
  | .held, some r =>
    let s := claimGone (endPour o (raise e s))
    withdrawCheck (if r.poured then s else releaseSlot s)
  | _, _ => s

/-! ### Host commands of the cycle -/

/-- Steps 1 to 3 of R170, without the clearing of causes; none when refused. -/
def haltSteps (s : State) : Option State :=
  if s.cycle.causes.contains .stationClash || s.cycle.causes.contains .ownTrip ||
      (s.cycle.causes.contains .hostLapse && !s.cycle.lapseAnswered) then none
  else
    match clearSpout s with
    | none => none
    | some s' => some (clearTravel s')

/-- Every standing cause is removed (R170 step 4). The halt cause READ STATUS reports goes with them: DESIGN CHOICE
(log 51). -/
def clearCauses (s : State) : State :=
  { s with cycle := { s.cycle with causes := [], haltCause := none, lapseAnswered := false } }

/-- The table of R171, from HALTED (causes removed) or PAUSED. -/
def withdrawFrom (s : State) : State :=
  let s := { s with cycle := { s.cycle with withdrawMark := false } }
  if s.cycle.ending || s.claim.state ≠ .held then enterWithdrawing s
  else if s.cycle.settleMs.isSome then setCycle .settling s
  else withdrawPour s

/-- The destinations of CLEAR HALT (R170). One that is IDLE at once is reached through WITHDRAWING, whose stop request ends a
homing search begun in HALTED: DESIGN CHOICE (log 60). -/
def resumeFrom (s : State) : State :=
  if s.cycle.withdrawMark then withdrawFrom s
  else if s.cycle.ending || s.claim.state ≠ .held then enterWithdrawing s
  else if s.cycle.settleMs.isSome then setCycle .settling s
  else if s.scale.pourOpen && s.spout.state = .lowered then enterPour s
  else
    let s := setCycle .positioning s
    if s.spout.state = .lowered then atHatch s else positionAct s

/-- The attendance timer restarts when the destination is not IDLE (R170). -/
def reattend (s : State) : State := if s.cycle.state = .idle then s else restartAttendance s

end Sys2Proof.Machine
end

