-- ==== Sys2Proof/Machine/Chains.lean ====
section
/-! DEFINITION. What a change of one block does to the blocks it is told to: exposure (R56, R57), Peer Table marks and
notices (R91, R93, R94), position (R139, R152), the converter's readings (R47). -/

namespace Sys2Proof.Machine

/-! ### Exposure -/

/-- The Cycle Controller is told an exposure (R57, R165, R168): at TRIP the halt is taken before the pause cause acts
(log 18). `before` is the exposure held before. -/
def cycleExposure (before : Exposure) (s : State) : State :=
  if s.dust.exposure = .trip then (if before = .trip then s else recordPauses (raiseHalt .ownTrip s))
  else pauseUpdate (if before = .trip then removeCause .ownTrip s else s)

/-- A new exposure is taken (R56, R58, R59): DUST_CHANGE, patterns from step 0, the horn unsilenced by a rise; the Feed
Regulator clamps, the Cycle Controller and the Monitor's own continuous condition follow. -/
def takeExposure (e : Exposure) (s : State) : State :=
  let before := s.dust.exposure
  let s := raise .dustChange { s with dust := { s.dust with
    exposure := e, hornPos := 0, lampPos := 0,
    silenced := if before.code < e.code then false else s.dust.silenced } }
  beltStallTest (continuousTest (cycleExposure before (clampFeed s)))

/-- The exposure is formed again (R56); before RUN it is CLEAR. -/
def refreshExposure (s : State) : State :=
  if s.running && formExposure s ≠ s.dust.exposure then takeExposure (formExposure s) s else s

/-! ### Peer Table marks and notices -/

/-- A peer's position contradicts station order (R91). -/
def contradicts (s : State) (i : Nat) (p : Peer) : Bool :=
  match p.presence, p.pos with
  | .live, some x => s.travel.referenced && (if i < s.station then decide (position s ≤ x) else decide (x ≤ position s))
  | .silent, some x => s.travel.referenced && (if i < s.station then decide (position s ≤ x) else decide (x ≤ position s))
  | _, _ => false

/-- A LIVE peer reports another plan identity than the own (R94). -/
def mismatches (s : State) (p : Peer) : Bool :=
  match p.presence, p.planId, ownPlanId s with
  | .live, some (n, c), some own => n != 0 && (n, c) != own
  | _, _, _ => false

/-- The marks of one entry computed again (R91, R94). -/
def markPeer (s : State) (i : Nat) (p : Peer) : Peer :=
  if i = s.station then p else { p with orderFault := contradicts s i p, mismatch := mismatches s p }

/-- Apply a function to every entry with its station number. -/
def mapPeers (f : Nat → Peer → Peer) : Nat → List Peer → List Peer
  | _, [] => []
  | i, p :: ps => f i p :: mapPeers f (i + 1) ps

/-- Some entry has a property now that it did not have before. -/
def someGain (q : Peer → Bool) : List Peer → List Peer → Bool
  | p :: ps, p' :: ps' => (!q p && q p') || someGain q ps ps'
  | _, _ => false

/-- Marks of every entry, with ORDER_FAULT and PLAN_MISMATCH for each gain (R91, R94). -/
def refreshMarks (s : State) : State :=
  let marked := mapPeers (markPeer s) 0 s.peers
  raiseIf (someGain (fun p => p.mismatch) s.peers marked) .planMismatch
    (raiseIf (someGain (fun p => p.orderFault) s.peers marked) .orderFault { s with peers := marked })

/-- After a change of the table, of the own position or of the own plan identity: marks, then the notices of R93 to the
Dust Monitor, to the Travel Unit at a changed blocking interval, and to the Claim Unit when agreement is lost (R125).
`before` is the state before the change. -/
def settlePeers (before s : State) : State :=
  let s := refreshExposure (refreshMarks s)
  let st := s.travel.state
  let s := if s.running && blockings before ≠ blockings s then tellFault st (onBlocking s) else s
  if agreed before && !agreed s then withdrawClaim s else s

/-! ### Position and window -/

/-- The in-window level has changed by the position or the window (R152, R163): HATCH_LOST at a fall with the spout
LOWERING or LOWERED under a HELD claim; POSITIONING acts on the level. -/
def settleWindow (before s : State) : State :=
  if inWindow before = inWindow s then s
  else if inWindow before && s.claim.state = .held && (s.spout.state = .lowering || s.spout.state = .lowered) then
    endPour .hatchLost s
  else positionAct s

/-- A change of the whole-centimetre position is told on (R139): Travel Unit, Peer Table, Dust Monitor, window. -/
def movePosition (before s : State) : State :=
  if position before = position s then s
  else
    let s := tellFault before.travel.state (positionMoved (ownSpan before) s)
    beltStallTest (settleWindow before (settlePeers before s))

/-! ### Dust readings and levels -/

/-- Levels formed again after a reading or an ACK DUST (R52, R54, R56). The DUST frame of a change is handed over before the
new exposure takes effect (its halt, the withdrawal of a queued CLAIM): DESIGN CHOICE (log 21). -/
def settleLevels (before s : State) : State :=
  refreshExposure (announceDust (stationLevel before) (tripCount before) s)

end Sys2Proof.Machine
end

