-- ==== Sys2Proof/Machine/BoardCore.lean ====
section
/-! DEFINITION. The Tranche Board's operations and merge rules (R105 to R114), the Claim Unit's answers to the board
(R123, R124, R126, R130), trim figures and selection (R119 to R122, R132, R133). -/

namespace Sys2Proof.Machine

/-! ### Operations on board records -/

/-- The phase is OPEN. -/
def isVacant (t : Tranche) : Bool :=
  match t.phase with
  | .vacant => true
  | _ => false

/-- The claimant of a record, present while it is CLAIMED (R105). -/
def claimant (t : Tranche) : Option Nat :=
  match t.phase with
  | .claimed b _ => some b
  | _ => none

/-- The live kg of a record, present while it is CLAIMED (R105). -/
def boardLive (t : Tranche) : Option Nat :=
  match t.phase with
  | .claimed _ l => some l
  | _ => none

/-- Claim (R105). -/
def claimRecord (b seq : Nat) (t : Tranche) : Tranche := { t with phase := .claimed b 0, seq := seq }

/-- Release (R105); without effect on a record that is not CLAIMED. -/
def releaseRecord (t : Tranche) : Tranche :=
  match t.phase with
  | .claimed _ l => { t with phase := .vacant, settled := satAdd (maxOf 32) t.settled l }
  | _ => t

/-- Close (R105): a record already DONE stays DONE. -/
def closeRecord (seq : Nat) (isDone : Bool) (settled : Nat) (t : Tranche) : Tranche :=
  { t with
    seq := seq, settled := max t.settled settled,
    phase := if isDone || t.phase = .done then .done else .vacant }

/-- Apply an operation to the record of one tranche id. -/
def onRecord (k : Nat) (f : Tranche → Tranche) (ts : List Tranche) : List Tranche :=
  ts.map (fun t => if t.id = k then f t else t)

/-- A tranche is CLAIMED by a station other than `b`. -/
def claimedByOther (b : Nat) (t : Tranche) : Bool :=
  match t.phase with
  | .claimed c _ => c != b
  | _ => false

/-- The hold test (R105) of station `b` on a hold. -/
def holdTest (b hold : Nat) (ts : List Tranche) : Bool :=
  ts.all (fun t => !(t.hold == hold && claimedByOther b t))

/-- Station `b` holds one claim: every other tranche it has CLAIMED is released (R107). -/
def releaseOthers (b k : Nat) (ts : List Tranche) : List Tranche :=
  ts.map (fun t => if claimant t = some b ∧ t.id ≠ k then releaseRecord t else t)

/-- An accepted claim (R107). -/
def acceptClaim (b k seq : Nat) (ts : List Tranche) : List Tranche := onRecord k (claimRecord b seq) (releaseOthers b k ts)

/-- A CLAIM is accepted (R107). -/
def claimAccepted (b seq hold : Nat) (t : Tranche) (ts : List Tranche) : Bool :=
  hold == t.hold && isVacant t && seq == t.seq + 1 && holdTest b t.hold ts

/-- A TALLY (R109): current claim, adoption, or ignored. -/
def mergeTally (b seq live : Nat) (t : Tranche) (ts : List Tranche) : List Tranche :=
  match t.phase with
  | .claimed c l =>
    if c = b ∧ t.seq = seq then onRecord t.id (fun t => { t with phase := .claimed c (max l live) }) ts else ts
  | .vacant =>
    if seq = t.seq + 1 ∧ holdTest b t.hold ts = true then
      onRecord t.id (fun t => { t with phase := .claimed b live }) (acceptClaim b t.id seq ts)
    else ts
  | .done => ts

/-- A CLOSE (R108): stale below the record's sequence, else a close. -/
def mergeClose (seq : Nat) (o : CloseOutcome) (settled : Nat) (t : Tranche) (ts : List Tranche) : List Tranche :=
  if seq < t.seq then ts else onRecord t.id (closeRecord seq (o = .done) settled) ts

/-- A NOTE (R110). -/
def mergeNote (isDone : Bool) (seq settled : Nat) (t : Tranche) (ts : List Tranche) : List Tranche :=
  if seq < t.seq then ts
  else if t.seq < seq then onRecord t.id (closeRecord seq isDone settled) ts
  else
    onRecord t.id (fun t => { t with
      settled := max t.settled settled, phase := if isDone then .done else t.phase }) ts

/-- The implicit release of a peer's beacon (R111): every tranche it has CLAIMED but the one it names at its sequence. Only a
beacon that reaches the merge rules makes it (log 62). -/
def implicitRelease (b k seq : Nat) (ts : List Tranche) : List Tranche :=
  ts.map (fun t => if claimant t = some b ∧ ¬(t.id = k ∧ t.seq = seq) then releaseRecord t else t)

/-- A beacon's claim compared with the record (the table of R112); in a conflict the lower station number keeps it. -/
def beaconConflict (b k seq : Nat) (ts : List Tranche) : List Tranche :=
  match ts.find? (fun t => t.id == k) with
  | none => ts
  | some t =>
    match t.phase with
    | .done => ts
    | .claimed c _ =>
      if c = b ∨ seq < t.seq ∨ c < b then ts
      else
        let freed := onRecord k releaseRecord ts
        if seq = t.seq ∨ seq = t.seq + 1 then onRecord k (claimRecord b seq) freed else freed
    | .vacant =>
      if seq ≠ t.seq + 1 then ts
      else if holdTest b t.hold ts then onRecord k (claimRecord b seq) ts
      else if ts.any (fun u => u.hold == t.hold && claimedByOther b u && (claimant u).any (fun c => decide (c < b))) then ts
      else
        onRecord k (claimRecord b seq)
          (ts.map (fun u => if u.hold = t.hold ∧ claimedByOther b u = true then releaseRecord u else u))

/-- The plan is sealed: the board takes frames (R106). -/
def boardOpen (s : State) : Bool := s.plan.state == .learning || s.plan.state == .ready

/-- A CLAIM, CLOSE, TALLY or NOTE reaches the merge rules (R106): its tranche, when it does. -/
def mergeTarget (s : State) (plan k : Nat) : Option Tranche :=
  match s.plan.header with
  | some h => if boardOpen s && h.number = plan then findTranche s k else none
  | none => none

/-- The own CLAIM just merged was accepted; none for any other frame, and for a frame the board ignores (R107). -/
def claimResult (b : Nat) (own : Bool) (f : Frame) (s : State) : Option Bool :=
  match f with
  | .claim plan k seq hold =>
    if own then (mergeTarget s plan k).map (fun t => claimAccepted b seq hold t s.plan.tranches) else none
  | _ => none

/-- The records after a frame from station `b` has been merged whole (R106 to R112). A reset peer's first BEACON carries plan
number 0 (R97, R174): R106 has the board ignore it, R111, R127 and section 9.11 have it release that peer's claim; it is
ignored, and the release waits for a BEACON of the own plan identity: DESIGN CHOICE (log 62). -/
def mergedTranches (b : Nat) (own : Bool) (f : Frame) (s : State) : List Tranche :=
  match f with
  | .claim plan k seq hold =>
    match mergeTarget s plan k with
    | some t => if claimAccepted b seq hold t s.plan.tranches then acceptClaim b k seq s.plan.tranches else s.plan.tranches
    | none => s.plan.tranches
  | .close plan k seq o _ settled =>
    match mergeTarget s plan k with
    | some t => mergeClose seq o settled t s.plan.tranches
    | none => s.plan.tranches
  | .tally plan k seq live =>
    match mergeTarget s plan k with
    | some t => mergeTally b seq live t s.plan.tranches
    | none => s.plan.tranches
  | .note plan k isDone seq settled =>
    match mergeTarget s plan k with
    | some t => mergeNote isDone seq settled t s.plan.tranches
    | none => s.plan.tranches
  | .beacon _ _ _ _ _ _ _ _ plan check k seq =>
    if !own && boardOpen s && ownPlanId s = some (plan, check) then
      beaconConflict b k seq (implicitRelease b k seq s.plan.tranches)
    else s.plan.tranches
  | _ => s.plan.tranches

/-! ### The Claim Unit's answers -/

/-- The own CLAIM heard as own echo (R123, R126). -/
def claimHeard (accepted : Bool) (s : State) : State :=
  match s.claim.state, s.claim.own with
  | .pending, some r =>
    if !accepted then claimLost s
    else if r.withdrawMark then
      let s := raise .claimLost (releaseSlot s)
      cycleLost (handClose r (closeFrameOf s r .released 0) s)
    else
      cycleWon (raise .claimWon { s with claim := { s.claim with state := .held } })
  | _, _ => s

/-- The pending claim is no longer acceptable on the own board (R124). -/
def pendingVoid (s : State) : Bool :=
  match s.claim.state, s.claim.own with
  | .pending, some r =>
    match findTranche s r.tranche with
    | some t => !(isVacant t && t.seq + 1 == r.seq && holdTest s.station t.hold s.plan.tranches)
    | none => true
  | _, _ => false

/-- The tranche the board shows CLAIMED by the own station. -/
def ownTranche (station : Nat) (ts : List Tranche) : Option Tranche := ts.find? (fun t => claimant t == some station)

/-- The board tells that the own claim has ended, with its cause (R113), and the Claim Unit answers in HELD (R130). The
own CLOSE is answered at its notice "sent" (R129). `t` is the own record before the merge. An own TALLY left in the queue over
a reload of the same plan number can be adopted for another tranche (R109) and so release the held claim (R107); R113 lists no
cause for that end, and the model tells YIELDED: DESIGN CHOICE (log 63). An own CLOSE left over so tells CLOSED, which no rule
answers in HELD, and nothing is done: DESIGN CHOICE (log 63). -/
def ownClaimEnds (own : Bool) (f : Frame) (t : Tranche) (s : State) : State :=
  match f with
  | .close _ _ seq _ behalf _ =>
    if own && behalf = s.station then s
    else if seq = t.seq ∧ behalf = s.station then claimTaken .takenOver .takenOver s
    else claimTaken .yielded .yielded s
  | .claim .. => s
  | _ => claimTaken .yielded .yielded s

/-- The board still shows a record as it was claimed by the own station. -/
def stillOwn (station : Nat) (t : Tranche) (ts : List Tranche) : Bool :=
  ts.any (fun u => u.id == t.id && claimant u == some station && u.seq == t.seq)

/-- The Tranche Board merges a frame and tells the Claim Unit (R106 to R113, R123, R124). -/
def mergeFrame (b : Nat) (own : Bool) (f : Frame) (s : State) : State :=
  let before := s.plan.tranches
  let result := claimResult b own f s
  let s := { s with plan := { s.plan with tranches := mergedTranches b own f s } }
  let s :=
    match result with
    | some accepted => claimHeard accepted s
    | none =>
      match ownTranche s.station before with
      | some t => if stillOwn s.station t s.plan.tranches then s else ownClaimEnds own f t s
      | none => s
  if pendingVoid s then withdrawClaim s else s

/-! ### Trim (R132) -/

/-- Signed 48-bit saturation. -/
def sat48 (z : Int) : Int := max (-(2 ^ 47 - 1)) (min (2 ^ 47 - 1) z)

/-- The live kg of a tranche for trim: the scale's for the own held tranche, the board's otherwise. -/
def trimLive (s : State) (t : Tranche) : Nat :=
  match s.claim.state, s.claim.own with
  | .held, some r => if r.tranche = t.id then liveKg s else (boardLive t).getD 0
  | _, _ => (boardLive t).getD 0

/-- The mass of a tranche in the vessel. -/
def massOf (s : State) (t : Tranche) : Nat := t.settled + trimLive s t

/-- The remaining kg of a tranche for trim. -/
def remainingOf (s : State) (t : Tranche) : Nat := t.target - t.settled - trimLive s t

/-- The lever arm of a hold. -/
def leverOf (s : State) (hold : Nat) : Int :=
  match findHold s hold with
  | some h => h.lever
  | none => 0

/-- W_h. -/
def holdMass (s : State) (hold : Nat) : Int :=
  s.plan.tranches.foldl (fun acc t => if t.hold = hold then sat48 (acc + massOf s t) else acc) 0

/-- M_now. -/
def momentNow (s : State) : Int :=
  s.plan.holds.foldl (fun acc h => sat48 (acc + sat48 (h.lever * holdMass s h.number))) 0

/-- M_commit. -/
def momentCommit (s : State) : Int :=
  s.plan.tranches.foldl (fun acc t =>
    if (claimant t).isSome then sat48 (acc + sat48 ((remainingOf s t : Int) * leverOf s t.hold)) else acc) (momentNow s)

/-- M_proj of a candidate. -/
def momentProj (s : State) (t : Tranche) : Int :=
  sat48 (momentCommit s + sat48 ((remainingOf s t : Int) * leverOf s t.hold))

/-- The trim limit of the plan. -/
def trimLimit (s : State) : Nat :=
  match s.plan.header with
  | some h => h.trimLimit
  | none => 0

/-- The trim check (R133). -/
def trimPasses (s : State) (t : Tranche) : Bool :=
  decide ((momentProj s t).natAbs ≤ trimLimit s) || decide ((momentProj s t).natAbs ≤ (momentCommit s).natAbs)

/-! ### Selection -/

/-- The first station condition that fails (R120). -/
def stationCondition (s : State) : Option Selection :=
  if !agreed s then some .notAgreed
  else if s.qli.degraded then some .degraded
  else if 2 ≤ s.dust.exposure.code || decide (0 < tripCount s) then some .dust
  else if !s.travel.referenced then some .unreferenced
  else if freeSlots s = 0 then some .billFull
  else none

/-- Conditions 4 and 5 of R121: the hold's window can be worked and reached. -/
def hatchReachable (s : State) (hold : Nat) : Bool :=
  match findHold s hold with
  | none => false
  | some h =>
    match hatchWindow s h, freeStretch s with
    | some w, some free =>
      decide ((rail s).arrivalTol + (rail s).clearance ≤ h.half) &&
        decide ((rail s).railMin + (rail s).half ≤ w.lo) && decide (w.hi + (rail s).half ≤ (rail s).railMax) &&
        w.within free
    | _, _ => false

/-- Conditions 1 to 5 of R121. -/
def candidate (s : State) (t : Tranche) : Bool :=
  isVacant t && decide (t.seq < 255) &&
    (t.pred == 0 || (findTranche s t.pred).any (fun p => p.phase = .done)) &&
    s.plan.tranches.all (fun u => !(u.hold == t.hold && (claimant u).isSome)) && hatchReachable s t.hold

/-- Walk the tranche list (R119): the first eligible tranche, and the M_proj of the last candidate tested. -/
def walkTranches (s : State) : List Tranche → Option Int → Option Tranche × Option Int
  | [], proj => (none, proj)
  | t :: ts, proj =>
    if candidate s t then
      if trimPasses s t then (some t, some (momentProj s t)) else walkTranches s ts (some (momentProj s t))
    else walkTranches s ts proj

/-- An eligible tranche is claimed (R122): slot reserved, PENDING, the CLAIM handed over, CLAIMING and what stands in its way
(R162), then the notice of a frame dropped at the handing over, be it the CLAIM itself (R76, R126; log 37). -/
def makeClaim (t : Tranche) (plan : Nat) (s : State) : State :=
  let s := reserveSlot s
  let s := { s with claim := { s.claim with
    state := .pending, selection := some (.chosen t.id),
    own := some { plan := plan, tranche := t.id, hold := t.hold, seq := t.seq + 1, withdrawMark := false,
                  poured := false, endRequest := none, closedKg := none, closeFrame := none, resend := false } } }
  let f : Frame := .claim plan t.id (t.seq + 1) t.hold
  tellDrop (place f s).2 (claimingFaults (cyclePending (place f s).1))

/-- A selection attempt is due at a beacon tick (R119). -/
def attemptDue (s : State) : Bool :=
  s.cycle.state == .idle && s.cycle.auto && s.claim.state == .none && s.plan.state == .ready

/-- A selection attempt (R119 to R122). -/
def attempt (s : State) : State :=
  match stationCondition s with
  | some r => { s with claim := { s.claim with selection := some r } }
  | none =>
    let found := walkTranches s s.plan.tranches s.claim.mProj
    let s := { s with claim := { s.claim with mProj := found.2 } }
    match found.1, s.plan.header with
    | some t, some h =>
      if canReserve s then makeClaim t h.number s
      else { s with claim := { s.claim with selection := some .billFull } }
    | _, _ => { s with claim := { s.claim with selection := some .noneEligible } }

end Sys2Proof.Machine
end

