-- ==== Sys2Proof/Machine/IntervalCore.lean ====
section
/-! DEFINITION. The interval end: tally, crediting, calibration, live trim, opening and close of a pour, the bill, the
snapshot record and the requests of the interval that begins (R4, R8 to R18, R20, R46, R134, R135, R179, R180). The
order of the steps is log 7. -/

namespace Sys2Proof.Machine

/-! ### Tally and crediting -/

/-- The working zero (R7). -/
def workingZero (s : State) : Nat := s.scale.workingZero.getD 0

/-- t of R8 from the interval's figures: fine remainder, load reading, working zero, pulses, span. -/
def tallyOf (fine load z pulses span : Nat) : Nat := fine + (load - z) * pulses * span

/-- t of the interval that ends (R8). -/
def tally (s : State) : Nat := tallyOf s.scale.fine s.scale.load (workingZero s) s.scale.pulses (scaleCfg s).span

/-- g_i of the interval that ends (R8). -/
def intervalGrams (s : State) : Nat := tally s / 1024

/-- The flags of the interval that ends (R9). -/
def intervalFlags (s : State) : IntervalFlags :=
  { overrange := s.scale.overrange, underzero := decide (s.scale.load + (scaleCfg s).zeroTol < workingZero s),
    pulseSat := s.scale.pulseSat }

/-- Crediting `g` saturates a counter (R11): the addition would carry it past its largest value. -/
def creditSaturates (sc : Scale) (g : Nat) : Bool :=
  decide (maxOf 48 < sc.total + g) ||
    (if sc.pourOpen then decide (maxOf 40 < sc.openGrams + g) else decide (maxOf 48 < sc.stray + g))

/-- The scale after `g` grams with interval flags `i` are credited (R10, R11, R16). -/
def creditScale (g : Nat) (i : IntervalFlags) (sc : Scale) : Scale :=
  let sat := creditSaturates sc g
  { sc with
    total := satAdd (maxOf 48) sc.total g
    openGrams := if sc.pourOpen then satAdd (maxOf 40) sc.openGrams g else sc.openGrams
    stray := if sc.pourOpen then sc.stray else satAdd (maxOf 48) sc.stray g
    saturated := sc.saturated || sat
    quality := if sc.pourOpen then sc.quality.credit i sat else sc.quality }

/-- Tally, flags and crediting at an interval end (R8 to R11). -/
def creditInterval (s : State) : State :=
  let i := intervalFlags s
  let sat := creditSaturates s.scale (intervalGrams s)
  raiseIf (i.onset s.scale.prevFlags || sat) .scaleFlag
    { s with scale := { creditScale (intervalGrams s) i s.scale with fine := tally s % 1024 } }

/-! ### Calibration -/

/-- A calibration ends with a result (R18). -/
def endCalibration (r : ZeroResult) (s : State) : State :=
  raise .zeroDone { s with scale := { s.scale with calRunning := false, calSkip := false, lastZero := r } }

/-- The candidate zero of a full calibration (R18). -/
def candidateZero (sum : Nat) : Nat := (sum + 20) / 40

/-- What an interval end does for a running calibration (R17, R18). The interval under way at acceptance does not
count: `calSkip` stands until its end. -/
def calibrate (s : State) : State :=
  if !s.scale.calRunning then s
  else if s.scale.calSkip then { s with scale := { s.scale with calSkip := false } }
  else if s.scale.pulses = 0 then endCalibration .noBelt s
  else
    let sum := s.scale.calSum + s.scale.load
    let s := { s with scale := { s.scale with calSum := sum, calCount := s.scale.calCount + 1 } }
    if s.scale.calCount < 40 then s
    else if (scaleCfg s).zeroLimit < dist (candidateZero sum) (scaleCfg s).zero then endCalibration .range s
    else endCalibration .ok { s with scale := { s.scale with workingZero := some (candidateZero sum) } }

/-! ### Live trim (R134) -/

/-- The lever arm of the own held hold. -/
def ownLever (s : State) : Int :=
  match s.claim.own with
  | some r => leverOf s r.hold
  | none => 0

/-- The TRIM cause after an interval end with M_live `m`, lever arm `a` and trim limit `limit` (R134). -/
def nextTrim (held : Bool) (m a : Int) (limit : Nat) : Bool :=
  if held then !(decide (m.natAbs ≤ limit * 15 / 16) || decide (m.sign ≠ a.sign))
  else decide (limit < m.natAbs) && decide (a ≠ 0) && decide (m.sign = a.sign)

/-- The trim check of an interval end while the claim is HELD and a pour is open (R134). -/
def trimInterval (s : State) : State :=
  if s.claim.state = .held && s.scale.pourOpen then
    let m := momentNow s
    pauseUpdate { s with claim := { s.claim with
      mLive := some m, trim := nextTrim s.claim.trim m (ownLever s) (trimLimit s) } }
  else s

/-! ### Opening and close -/

/-- A pending opening takes effect (R13): pour open with 0 grams, opening time and SURGE flag and pour record started,
and POSITIONING enters POURING or PAUSED (R35, R164, R179), also under a spout no longer LOWERED: DESIGN CHOICE
(log 61). -/
def openPour (s : State) : State :=
  let s := { s with
    scale := { s.scale with pourOpen := true, pendingOpen := false, openGrams := 0, quality := .clear },
    bills := { s.bills with openedAt := some s.seconds },
    feed := { s.feed with surge := false },
    cycle := { s.cycle with dustPaused := false, trimPaused := false, lastHalt := none } }
  let s := recordPauses s
  if s.cycle.state = .positioning then enterPour s else s

/-- The final kg of a pour of some grams: rounded half up (R14). -/
def finalKg (grams : Nat) : Nat := (grams + 500) / 1000

/-- The closing report of the open pour (R14, R16). -/
def closingReport (o : PourOutcome) (s : State) : ClosingReport :=
  let sat := decide (maxOf 48 < s.scale.closed + s.scale.openGrams)
  { netGrams := s.scale.openGrams, finalKg := finalKg s.scale.openGrams, outcome := o,
    quality := { s.scale.quality with saturated := s.scale.quality.saturated || sat }, closedAt := s.seconds }

/-- The Scale Unit's part of a close (R11, R14). -/
def closeScale (sc : Scale) : Scale :=
  { sc with
    closed := satAdd (maxOf 48) sc.closed sc.openGrams, openGrams := 0, pourOpen := false, pendingClose := none,
    saturated := sc.saturated || decide (maxOf 48 < sc.closed + sc.openGrams), quality := .clear }

/-- The Claim Unit's part of a close while the claim is HELD: the last TALLY, the final kg held for an end request, the
TRIM cause clear (R128, R134, R135). -/
def closeClaim (r : ClosingReport) (s : State) : State :=
  match s.claim.state, s.claim.own with
  | .held, some c =>
    let s := { s with claim := { s.claim with own := some { c with closedKg := some r.finalKg } } }
    let s := enqueue (.tally c.plan c.tranche c.seq (r.netGrams / 1000)) s
    pauseUpdate { s with claim := { s.claim with trim := false } }
  | _, _ => s

/-- A kept end request is completed at the closing report (R128). -/
def completeEnd (kg : Nat) (s : State) : State :=
  match s.claim.state, s.claim.own with
  | .held, some r =>
    match r.endRequest with
    | some o => handClose r (closeFrameOf s r o kg) s
    | none => s
  | _, _ => s

/-- The Feed Regulator's part of a close: SHUT if it still regulates, the share and the SURGE flag gone (R25, R26, R35). -/
def closeFeed (s : State) : State :=
  let s := shutFeed s
  { s with feed := { s.feed with share := none, surge := false } }

/-- The bill the three parts make (R180, R181). -/
def billOf (id : BillIdentity) (r : ClosingReport) (s : State) : Bill :=
  { number := s.bills.seq, ident := id, openedAt := s.bills.openedAt.getD 0, closedAt := r.closedAt,
    netGrams := r.netGrams, finalKg := r.finalKg, outcome := r.outcome, lastHalt := s.cycle.lastHalt,
    quality := r.quality, surge := s.feed.surge, trimPaused := s.cycle.trimPaused, dustPaused := s.cycle.dustPaused }

/-- The sequence counter after a store: from 65,535 to 1 (R180). -/
def nextBill (n : Nat) : Nat := if 65535 ≤ n then 1 else n + 1

/-- The number of the plan loaded, if one is (R180). -/
def loadedNumber (s : State) : Option Nat := s.plan.header.map (fun h => h.number)

/-- The plan tallies take a stored bill of the loaded plan (R186). -/
def tallyBill (b : Bill) (s : State) : State :=
  if loadedNumber s = some b.ident.plan then
    { s with bills := { s.bills with
        totals := s.bills.totals.set (b.ident.hold - 1)
          (satAdd (maxOf 32) (s.bills.totals.getD (b.ident.hold - 1) 0) b.finalKg),
        entries := satAdd 65535 s.bills.entries 1 } }
  else s

/-- The open entry is completed and stored, and POUR_CLOSED raised (R180). -/
def storeBill (r : ClosingReport) (s : State) : State :=
  match s.bills.identity with
  | none => s
  | some id =>
    let b := billOf id r s
    raise .pourClosed (tallyBill b { s with bills := { s.bills with
      stored := s.bills.stored ++ [b], reserved := false, identity := none, openedAt := none,
      seq := nextBill s.bills.seq } })

/-- The end request after a settle (R166 step 3): DONE when the tranche's settled kg plus the final kg reaches its
target, RELEASED otherwise and after WITHDRAWN; no other outcome makes one here. -/
def endAfterClose (r : ClosingReport) (s : State) : State :=
  match r.outcome with
  | .done =>
    match s.claim.own with
    | some c =>
      match findTranche s c.tranche with
      | some t => endClaim (if t.target ≤ t.settled + r.finalKg then .done else .released) s
      | none => endClaim .released s
    | none => s
  | .withdrawn => endClaim .released s
  | _ => s

/-- A pending closing takes effect (R14): Scale Unit, Claim Unit, Bill Log, Feed Regulator, then the Cycle Controller's
end request and its test of the way out (R166, R167). -/
def closePour (o : PourOutcome) (s : State) : State :=
  let r := closingReport o s
  let sat := decide (maxOf 48 < s.scale.closed + s.scale.openGrams)
  let s := raiseIf sat .scaleFlag { s with scale := closeScale s.scale }
  let s := closeFeed (storeBill r s)
  let s := { s with cycle := { s.cycle with dustPaused := false, trimPaused := false, lastHalt := none } }
  withdrawCheck (endAfterClose r (completeEnd r.finalKg (closeClaim r s)))

/-- The pending opening or closing takes effect; a closing waits for a pour that was open already (R13 to R15). -/
def openOrClose (s : State) : State :=
  if s.scale.pourOpen then
    match s.scale.pendingClose with
    | some o => closePour o s
    | none => s
  else if s.scale.pendingOpen then openPour s
  else s

/-! ### The snapshot and the next interval -/

/-- The snapshot record is replaced (R20). `b` is the state in the interval, before its end: it gives the interval's
figures; `credited` the open-pour grams after crediting, 0 for stray. -/
def snapshotOf (b : State) (credited : Nat) (s : State) : Snapshot :=
  { load := b.scale.load, pulses := b.scale.pulses, grams := intervalGrams b, fine := s.scale.fine,
    openGrams := credited, stray := s.scale.stray, total := s.scale.total, flags := intervalFlags b,
    saturated := s.scale.saturated, acc := s.feed.acc, gate := gateCode s, mode := s.feed.mode,
    exposure := s.dust.exposure, pos := position s }

/-- The interval that begins: pulses and interval flags from zero, the load request, then the heads' requests in
CONTINUOUS, entered from WARMING after one wake window (R4, R5, R9, R46). -/
def nextInterval (flags : IntervalFlags) (s : State) : State :=
  let s := { s with scale := { s.scale with prevFlags := flags, pulses := 0, overrange := false, pulseSat := false } }
  let s :=
    if s.dust.sampling = .warming && reached s.dust.warmMs (wakeWindow s) then
      { s with dust := { s.dust with sampling := .continuous, warmMs := none } }
    else s
  requestConversions (.load :: (if s.dust.sampling = .continuous then enabledInputs s else [])) s

/-- What the Feed Regulator and the Cycle Controller make of the interval's grams (R27, R37, R168). -/
def regulateInterval (credited : Bool) (g : Nat) (s : State) : State :=
  let r := feedInterval credited g s
  if r.2 then spillTold r.1 else beltStallTest r.1

/-- An interval end after RUN, whole (log 7). -/
def intervalEnd (s : State) : State :=
  let pour := s.scale.pourOpen
  let c := calibrate (creditInterval s)
  let credited := if pour then c.scale.openGrams else 0
  let t := openOrClose (trimInterval (regulateInterval pour (intervalGrams s) c))
  nextInterval (intervalFlags s) { t with scale := { t.scale with snapshot := some (snapshotOf s credited t) } }

end Sys2Proof.Machine
end

