-- ==== Sys2Proof/Machine/HostCore.lean ====
section
/-! DEFINITION. What every link frame that names a command does around the command (R189, R190), and the acts two rows
share: the second tick (R54, R135, R192), the beacon tick (R119, R129, R145, R149, R174), a peer falling silent (R86),
a receive error (R69, R73). -/

namespace Sys2Proof.Machine

/-! ### Link frames -/

/-- A frame of `n` bytes shifts the buffer out and consumes it (R189). -/
def shiftFrame (n : Nat) (s : State) : State :=
  { s with link := { s.link with miso := shiftOut s.link.buf n, buf := none } }

/-- The response to a frame is put in the buffer (R189). -/
def respond (code : Byte) (a : Answer) (s : State) : State :=
  { s with link := { s.link with
      buf := some { code := code, status := a.status, reason := a.reason, result := a.result } } }

/-- A frame whose code names a command (R189): the buffer shifts out; a frame too long, too short or of the wrong length
is refused with BAD_LENGTH; otherwise the command's own rule, `body`, gives the state and the answer. -/
def hostCommand (code : Byte) (fits : List Byte → Bool) (rest : List Byte)
    (body : List Byte → State → State × Answer) (s : State) : State :=
  match linkFields fits rest with
  | none => respond code (refuse .badLength) (shiftFrame (rest.length + 1) s)
  | some fs =>
    let r := body fs (shiftFrame (rest.length + 1) s)
    respond code r.2 r.1

/-- A command that acts only after RUN (R190 NOT_RUNNING). -/
def afterRun (body : State → State × Answer) (s : State) : State × Answer :=
  if s.running then body s else (s, refuse .notRunning)

/-! ### The second tick -/

/-- A repeat of the DUST frame is due (R54). -/
def repeatDue (s : State) : Bool := decide (1 ≤ (stationLevel s).code) || decide (0 < s.dust.clearRepeats)

/-- The Dust Monitor's second tick (R54). -/
def dustSecond (s : State) : State :=
  let s := { s with dust := { s.dust with repeatCount := s.dust.repeatCount + 1 } }
  if 2 ≤ s.dust.repeatCount && repeatDue s then
    sendDust { s with dust := { s.dust with
      clearRepeats := if stationLevel s = .clear then s.dust.clearRepeats - 1 else s.dust.clearRepeats } }
  else s

/-- The Claim Unit's second tick: a TALLY while the claim is HELD and a pour is open (R135). -/
def tallySecond (s : State) : State :=
  match s.claim.state, s.claim.own with
  | .held, some r => if s.scale.pourOpen then enqueue (.tally r.plan r.tranche r.seq (liveKg s)) s else s
  | _, _ => s

/-- A second tick (R54, R135, R192). The TALLY is handed over before the repeat of the DUST frame: DESIGN CHOICE (log 43). -/
def secondTickActs (s : State) : State :=
  dustSecond (tallySecond { s with seconds := (s.seconds + 1) % 4294967296 })

/-! ### The beacon tick -/

/-- The claim a BEACON names: tranche and sequence in HELD and CLOSING, 0 and 0 otherwise (R118). -/
def beaconClaim (s : State) : Nat × Nat :=
  match s.claim.state, s.claim.own with
  | .held, some r => (r.tranche, r.seq)
  | .closing, some r => (r.tranche, r.seq)
  | _, _ => (0, 0)

/-- The BEACON with the current figures (R174). -/
def beaconFrame (s : State) : Frame :=
  .beacon s.cycle.state s.travel.referenced (s.cycle.state == .halted) s.cycle.auto s.qli.degraded (position s)
    ((ownSpan s).getD (body s)).lo ((ownSpan s).getD (body s)).hi ((ownPlanId s).getD (0, 0)).1
    ((ownPlanId s).getD (0, 0)).2 (beaconClaim s).1 (beaconClaim s).2

/-- Once the own CLOSE has been dropped it is handed over again at every beacon tick until one is sent (R129). -/
def resendClose (s : State) : State :=
  match s.claim.state, s.claim.own with
  | .closing, some r =>
    match r.resend, r.closeFrame with
    | true, some f => enqueue f s
    | _, _ => s
  | _, _ => s

/-- A beacon tick of a held move: from the second on, the own station yields the rail when the overlap is still present
(R149); when it has gone, the hold stays until a notice ends it (log 23). The count stays at 255, the last value of its byte: DESIGN
CHOICE (log 56). -/
def holdTick (s : State) : State :=
  if s.travel.held then
    let s := { s with travel := { s.travel with holdTicks := min 255 (s.travel.holdTicks + 1) } }
    if 2 ≤ s.travel.holdTicks && overlapStands s then yieldRail s else s
  else s

/-- A beacon tick after RUN, in the order of log 9. -/
def beaconTickActs (s : State) : State :=
  let due := attemptDue s
  let s := resendClose (enqueue (beaconFrame s) s)
  holdTick (recheckWaiting (if due then attempt s else s))

/-! ### Peers and the line -/

/-- The entry of a station number is replaced. -/
def setPeer (i : Nat) (p : Peer) (s : State) : State := { s with peers := s.peers.set i p }

/-- A LIVE entry becomes SILENT with PEER_SILENT; its fields are kept (R86, R88). -/
def silencePeer (i : Nat) (s : State) : State :=
  raise .peerSilent (setPeer i { peer s i with presence := .silent, mismatch := false } s)

/-- A receive error (R69, R73): counted in the total and in the line window; at 8 with the flag clear, DEGRADED is set,
LINE_DEGRADED raised and a pending claim withdrawn (R125). -/
def countError (e : RxError) (s : State) : State :=
  let s := { s with qli := { s.qli with
    rx := match e with
      | .lengthOver16 => .hunting
      | .badCheck => .awaitingGap
    rxErrors := count16 s.qli.rxErrors, winErrors := s.qli.winErrors + 1 } }
  if 8 ≤ s.qli.winErrors && !s.qli.degraded then
    withdrawClaim (raise .lineDegraded { s with qli := { s.qli with degraded := true } })
  else s

/-- A line window ends and the next begins (R73). -/
def endLineWindow (s : State) : State :=
  { s with qli := { s.qli with
      degraded := s.qli.degraded && decide (s.qli.winErrors ≠ 0), winErrors := 0, lineMs := 0 } }

end Sys2Proof.Machine
end

