-- ==== Sys2Proof/Machine/BillLog.lean ====
section
/-! DEFINITION. The meanings of READ BILL and READ SUMMARY (R185 to R187, R195, R198). -/

namespace Sys2Proof.Machine

/-- The 34 result bytes of a pour entry (R198). -/
def billBytes (b : Bill) (still : Nat) : List Byte :=
  le 2 b.number ++ le 2 b.ident.plan ++ le 1 b.ident.tranche ++ le 1 b.ident.hold ++ le 1 b.ident.seq ++
  le 4 b.openedAt ++ le 4 b.closedAt ++ le 5 b.netGrams ++ le 4 (b.netGrams / 1000) ++ le 2 (b.netGrams % 1000) ++
  le 4 b.finalKg ++ le 1 b.outcome.code ++ le 1 (haltCode b.lastHalt) ++
  setBytes 1 [b.quality.overrange, b.quality.underzero, b.quality.pulseSat, b.surge, b.trimPaused, b.dustPaused,
    b.quality.saturated] ++ le 1 still

def readBill (_ : List Byte) (s : State) : State × Answer :=
  match s.bills.stored with
  | [] => (s, refuse .billEmpty)
  | b :: rest => ({ s with bills := { s.bills with stored := rest } }, done (billBytes b rest.length))

/-- READ BILL (R185). -/
def execReadBill (rest : List Byte) (s : State) : Host.Outcome State Fault Refusal :=
  .next (hostCommand 28 (fitsLen 0) rest (fun fs => afterRun (readBill fs)) s)

/-- A board total in four bytes; above their range it is a free value (log 16). -/
def totalBytes (kg : Nat) : List Byte := le 4 (if kg < 4294967296 then kg else Config.wideTotal kg)

/-- One hold of a summary. -/
def summaryHoldBytes (h : SummaryHold) : List Byte := le 1 h.number ++ totalBytes h.boardKg ++ le 4 h.ownKg

/-- A part of the summary (R195); none outside 0 to 2. -/
def summaryPart (n : Nat) (m : Summary) : Option (List Byte) :=
  match n with
  | 0 => some (le 2 m.number ++ le 2 m.check ++ le 4 m.closedAt ++ le 2 m.entries ++ le 6 m.stray)
  | 1 => some (listBytes ((m.holds.take 6).map summaryHoldBytes))
  | 2 => some (listBytes (((m.holds.drop 6).take 6).map summaryHoldBytes))
  | _ => none

/-- The judgement of READ SUMMARY after RUN: STATE without a summary, then the part number (log 40). -/
def readSummary (fs : List Byte) (s : State) : State × Answer :=
  match s.bills.summary with
  | none => (s, refuse .state)
  | some m =>
    match summaryPart (numAt fs 0 1) m with
    | some bytes => (s, done bytes)
    | none => (s, refuse .badValue)

/-- READ SUMMARY (R187). -/
def execReadSummary (rest : List Byte) (s : State) : Host.Outcome State Fault Refusal :=
  .next (hostCommand 29 (fitsLen 1) rest (fun fs => afterRun (readSummary fs)) s)

end Sys2Proof.Machine
end

