-- ==== Sys2Proof/Machine/Cycle.lean ====
section
/-! DEFINITION. The meanings of START, STOP, HALT, CLEAR HALT, WITHDRAW, KEEP, the permit contacts, the attendance lapse,
the settle expiry and the beacon tick (R159 to R161, R166, R168 to R172, R174). -/

namespace Sys2Proof.Machine

def startAuto (_ : List Byte) (s : State) : State × Answer :=
  if s.scale.calRunning then (s, refuse .state)
  else ({ s with cycle := { s.cycle with auto := true } }, done [])

/-- START (R159). -/
def execStart (rest : List Byte) (s : State) : Host.Outcome State Fault Refusal :=
  .next (hostCommand 22 (fitsLen 0) rest (fun fs => afterRun (startAuto fs)) s)

/-- STOP in HALTED: as WITHDRAW when steps 1 to 3 of R170 pass, else remembered by the withdraw marker (R172). -/
def stopHalted (s : State) : State :=
  match haltSteps s with
  | some t => withdrawFrom (clearCauses t)
  | none => { s with cycle := { s.cycle with withdrawMark := true } }

/-- The table of R172, the auto flag already cleared. -/
def stopFrom (s : State) : State :=
  match s.cycle.state with
  | .idle => s
  | .settling => s
  | .withdrawing => s
  | .claiming => withdrawClaim { s with cycle := { s.cycle with withdrawMark := true } }
  | .positioning => withdrawPour (stopTravel s)
  | .pouring => startSettle .withdrawn (shutFeed s)
  | .paused => startSettle .withdrawn (shutFeed s)
  | .halted => stopHalted s

def stopTower (_ : List Byte) (s : State) : State × Answer :=
  (stopFrom { s with cycle := { s.cycle with auto := false } }, done [])

/-- STOP (R172). -/
def execStop (rest : List Byte) (s : State) : Host.Outcome State Fault Refusal :=
  .next (hostCommand 23 (fitsLen 0) rest (fun fs => afterRun (stopTower fs)) s)

def haltTower (_ : List Byte) (s : State) : State × Answer :=
  if s.cycle.state = .idle then (s, refuse .state) else (raiseHalt .hostHalt s, done [])

/-- HALT (R169). -/
def execHalt (rest : List Byte) (s : State) : Host.Outcome State Fault Refusal :=
  .next (hostCommand 24 (fitsLen 0) rest (fun fs => afterRun (haltTower fs)) s)

def clearHalt (_ : List Byte) (s : State) : State × Answer :=
  match s.cycle.state with
  | .idle =>
    match clearSpout s with
    | some t => (clearTravel t, done [])
    | none => (s, refuse .state)
  | .halted =>
    match haltSteps s with
    | some t => (reattend (resumeFrom (clearCauses t)), done [])
    | none => (s, refuse .state)
  | _ => (s, refuse .state)

/-- CLEAR HALT (R170). -/
def execClearHalt (rest : List Byte) (s : State) : Host.Outcome State Fault Refusal :=
  .next (hostCommand 25 (fitsLen 0) rest (fun fs => afterRun (clearHalt fs)) s)

def withdrawTower (_ : List Byte) (s : State) : State × Answer :=
  match s.cycle.state with
  | .paused => (withdrawFrom s, done [])
  | .halted =>
    match haltSteps s with
    | some t => (withdrawFrom (clearCauses t), done [])
    | none => (s, refuse .state)
  | _ => (s, refuse .state)

/-- WITHDRAW (R171). -/
def execWithdraw (rest : List Byte) (s : State) : Host.Outcome State Fault Refusal :=
  .next (hostCommand 26 (fitsLen 0) rest (fun fs => afterRun (withdrawTower fs)) s)

/-- KEEP restarts the attendance timer outside IDLE and answers a standing HOST_LAPSE (R160). -/
def keepAttended (_ : List Byte) (s : State) : State × Answer :=
  let t := reattend s
  ({ t with cycle := { t.cycle with
      lapseAnswered := t.cycle.lapseAnswered || t.cycle.causes.contains .hostLapse } }, done [])

/-- KEEP (R160). -/
def execKeep (rest : List Byte) (s : State) : Host.Outcome State Fault Refusal :=
  .next (hostCommand 27 (fitsLen 0) rest (fun fs => afterRun (keepAttended fs)) s)

/-- The stable value of a permit contact. -/
def setContact (c : Contact) (active : Bool) (p : Pins) : Pins :=
  match c with
  | .p1 => { p with p1 := active }
  | .p2 => { p with p2 := active }
  | .p3 => { p with p3 := active }

/-- A permit contact changes (R161); at a change of the permit after RUN the pause cause PERMIT and a waiting lower
request follow (R163, R165). -/
def execPermitChange (c : Contact) (active : Bool) (s : State) : Host.Outcome State Fault Refusal :=
  let t := { s with pins := setContact c active s.pins }
  .next (if s.running && permit s != permit t then beltStallTest (positionAct (pauseUpdate t)) else t)

/-- The attendance timer lapses (R160). A KEEP taken first restarts the timer, and nothing lapses. -/
def execAttendanceLapse (s : State) : Host.Outcome State Fault Refusal :=
  .next (if attendDue s then
      raiseHalt .hostLapse { s with cycle := { s.cycle with attendMs := none, auto := false } }
    else s)

/-- The outcome a settle gives its pour (R166). -/
def settledOutcome (o : Option SettleOutcome) : PourOutcome :=
  match o with
  | some .done => .done
  | _ => .withdrawn

/-- The settle expires (R166): closing request, ending marker, and outside HALTED the raise and WITHDRAWING. -/
def settleExpires (s : State) : State :=
  let t := markEnding (requestClosing (settledOutcome s.cycle.settleOutcome)
    { s with cycle := { s.cycle with settleMs := none, settleOutcome := none } })
  if s.cycle.state = .halted then t else enterWithdrawing t

/-- SETTLE EXPIRY (R166). -/
def execSettleExpiry (s : State) : Host.Outcome State Fault Refusal :=
  .next (if settleDue s then settleExpires s else s)

/-- BEACON TICK (R119, R129, R145, R149, R174), taken at any phase of the time base (log 42). -/
def execBeaconTick (s : State) : Host.Outcome State Fault Refusal :=
  .next (if s.running then beaconTickActs s else s)

end Sys2Proof.Machine
end

