-- ==== Sys2Proof/Machine/FeedDust.lean ====
section
/-! DEFINITION. The meanings of SET FEED and the window end (R29, R40), and of the Dust Monitor's commands: ACK DUST, its
timers, the pattern step, the repeat (R45, R46, R53, R54, R58, R59). -/

namespace Sys2Proof.Machine

/-! ### Feed Regulator -/

/-- A setpoint brought into [F_min, F_max] (R40). -/
def clampSetpoint (c : FeedCfg) (v : Nat) : Nat := min c.fMax (max c.fMin v)

def setFeed (fs : List Byte) (s : State) : State × Answer :=
  match s.cfg.feed with
  | some c =>
    let v := numAt fs 0 2
    ({ s with feed := { s.feed with staged := some (clampSetpoint c v) } },
      { status := if clampSetpoint c v = v then .done else .doneClamped, reason := .none, result := [] })
  | none => (s, refuse .notRunning)

/-- SET FEED (R40). -/
def execSetFeed (rest : List Byte) (s : State) : Host.Outcome State Fault Refusal :=
  .next (hostCommand 9 (fitsLen 2) rest (fun fs => afterRun (setFeed fs)) s)

/-- The interval end brings the window counter to W (R27 step 4). -/
def windowDue (s : State) : Bool :=
  match s.cfg.feed with
  | some c => s.feed.mode ≠ .shut && s.scale.pourOpen && decide (c.window ≤ s.feed.count + 1)
  | none => false

/-- An interval end at which the window counter reaches W (R29, log 6). -/
def execWindowEnd (s : State) : Host.Outcome State Fault Refusal :=
  .next (if s.running && windowDue s then intervalEnd s else s)

/-! ### Dust Monitor -/

/-- Every enabled head is acknowledged, and the horn silenced (R53, R59). -/
def acknowledge (c : DustCfg) (s : State) : State :=
  { s with dust := { s.dust with
      heads := mapHeads (fun k h => if headEnabled s k then ackHead c h else h) 0 s.dust.heads, silenced := true } }

def ackDust (_ : List Byte) (s : State) : State × Answer :=
  match s.cfg.dust with
  | some c =>
    let t := settleLevels s (acknowledge c s)
    (t, done (le 1 (tripCount t)))
  | none => (s, refuse .notRunning)

/-- ACK DUST (R53). -/
def execAckDust (rest : List Byte) (s : State) : Host.Outcome State Fault Refusal :=
  .next (hostCommand 10 (fitsLen 0) rest (fun fs => afterRun (ackDust fs)) s)

/-- The wake window ends (R45): one request for each enabled head; with none the state passes to SLEEPING. -/
def execWakeWindowEnd (s : State) : Host.Outcome State Fault Refusal :=
  .next (if wakeDue s then
      let s := { s with dust := { s.dust with wakeMs := none } }
      afterReading (requestConversions (enabledInputs s) s)
    else s)

/-- The sleep period ends (R45). -/
def execSleepPeriodEnd (s : State) : Host.Outcome State Fault Refusal :=
  .next (if sleepDue s then enterWaking s else s)

/-- An interval end at which the warm-up timer has reached the wake window (R46, log 6). -/
def execWarmUpComplete (s : State) : Host.Outcome State Fault Refusal :=
  .next (if s.running && s.dust.sampling = .warming && reached s.dust.warmMs (wakeWindow s) then intervalEnd s else s)

/-- The next step of a pattern of a given length (R58). -/
def nextStep (len pos : Nat) : Nat := if pos + 1 < len then pos + 1 else 0

/-- The length of the pattern played at an exposure. -/
def patternLength (ps : List Pattern) (e : Exposure) : Nat :=
  match ps[e.code]? with
  | some p => p.len
  | none => 0

/-- A pattern step tick (R58), taken at any phase of the time base (log 42). -/
def execPatternStep (s : State) : Host.Outcome State Fault Refusal :=
  .next (match s.cfg.patterns with
    | some c =>
      if s.running then
        { s with dust := { s.dust with
            hornPos := nextStep (patternLength c.horn s.dust.exposure) s.dust.hornPos
            lampPos := nextStep (patternLength c.lamp s.dust.exposure) s.dust.lampPos } }
      else s
    | none => s)

/-- A second tick at which a repeat of the DUST frame falls due (R54, log 8). -/
def execDustRepeat (s : State) : Host.Outcome State Fault Refusal :=
  .next (if s.running && decide (2 ≤ s.dust.repeatCount + 1) && repeatDue s then secondTickActs s else s)

/-- A second tick (R54, R135, R192), taken at any phase of the time base (log 42). -/
def execSecondTick (s : State) : Host.Outcome State Fault Refusal :=
  .next (if s.running then secondTickActs s else s)

end Sys2Proof.Machine
end

