-- ==== Sys2Proof/Machine/Line.lean ====
section
/-! DEFINITION. The meanings of the quay line's events: line window end, idle gap, arbitration lost, frame abandoned,
frame heard, receive error (R62 to R78, R81 to R85). -/

namespace Sys2Proof.Machine

/-- The receiver has found its place (R69): from the completed idle gap until the end of the frame it reads. While it
hunts, or waits for the gap after a frame, no frame is heard and no error found (log 29). -/
def listening (s : State) : Bool := decide (s.qli.rx = .lineIdle) || decide (s.qli.rx = .inFrame)

/-- A line window of 1,000 ms ends (R73); a DEGRADED flag that clears lets a WAITING move repeat its check (R145). -/
def execLineWindowEnd (s : State) : Host.Outcome State Fault Refusal :=
  let t := endLineWindow s
  .next (if !lineWindowDue s then s else if s.qli.degraded && !t.qli.degraded then recheckWaiting t else t)

/-- The idle gap completes (R65): the head of the queue is offered when the QLI may send. It completes whatever the receiver's
state, on a line that has stayed idle too: DESIGN CHOICE (log 57). -/
def execIdleGap (s : State) : Host.Outcome State Fault Refusal :=
  let s := offerHead { s with qli := { s.qli with rx := .lineIdle } }
  .next { s with qli := { s.qli with rx := if txdIdle s then .lineIdle else .inFrame } }

/-- The frame on the line is a CLAIM marked withdrawn (R77). -/
def withdrawnClaim (s : State) : Bool := s.qli.queue.any (fun e => e.onLine.isSome && e.withdrawn)

/-- The frame leaves the line and stays queued; a withdrawn CLAIM leaves the queue with the notice withdrawn (R66, R67,
R77, R126). Its bits read so far are the first bits of the frame on the line. -/
def dropOffLine (s : State) : State :=
  let gone := withdrawnClaim s
  let s := takeOffLine s
  let s := { s with qli := { s.qli with rx := .inFrame } }
  if gone && s.claim.state = .pending then claimLost s else s

/-- Arbitration lost (R66). Without a frame on the line nothing happens. -/
def execArbitrationLost (s : State) : Host.Outcome State Fault Refusal :=
  .next (if (lineEntry s).isSome then dropOffLine s else s)

/-- A bit error abandons the own frame (R67). Without a frame on the line nothing happens. -/
def execFrameAbandoned (s : State) : Host.Outcome State Fault Refusal :=
  .next (if (lineEntry s).isSome then
      dropOffLine { s with qli := { s.qli with txErr := count16 s.qli.txErr } }
    else s)

/-- A receive error (R69, R73), found by a receiver in its place. -/
def execReceiveError (e : RxError) (s : State) : Host.Outcome State Fault Refusal :=
  .next (if listening s then countError e s else s)

/-! ### Frames heard -/

/-- A foreign frame is counted and discarded (R70). -/
def countForeign (s : State) : State := { s with qli := { s.qli with foreign := count16 s.qli.foreign } }

/-- The station number passes the fourth acceptance check (R70). -/
def stationAccepted (s : State) (b : Nat) : Bool :=
  match s.cfg.rail with
  | some c => decide (b < c.n)
  | none => true

/-- The notice "sent" to the owner of the own frame (R129, R146); every other owner acts on none. -/
def sentNotice (f : Frame) (renewed : Bool) (s : State) : State :=
  match f with
  | .close .. => if isOwnClose f s then withdrawCheck (claimGone s) else s
  | .span .. => if renewed then s else tellFault s.travel.state (moveSpanSent s)
  | _ => s

/-- The own frame is heard as own echo (R68): it leaves the queue unless renewed, passes the acceptance checks (R70),
goes to the Tranche Board (R71; the Peer Table keeps no entry for the own station), and its owner is told. -/
def ownEcho (s : State) : State :=
  match lineEntry s with
  | some e =>
    match e.onLine with
    | some f =>
      let s := echoLeaves { s with qli := { s.qli with rx := .awaitingGap } }
      let s :=
        match Frame.ofPayload f.cls f.payload with
        | some g => if stationAccepted s s.station then mergeFrame s.station true g s else countForeign s
        | none => countForeign s
      sentNotice f e.renewed s
    | none => s
  | none => s

/-- Every queued frame is discarded with the notice dropped, the one on the line among them (R78). That one adds nothing
to TX_ERR: DESIGN CHOICE (log 44). -/
def emptyQueue (s : State) : State :=
  s.qli.queue.foldl (fun t e => dropNotice e.frame t) { s with qli := { s.qli with queue := [] } }

/-- A station clash (R72): clash flag, STATION_CLASH, the halt after RUN, then the queue emptied (log 30). -/
def clashFound (s : State) : State :=
  let s := raise .stationClash { s with qli := { s.qli with clash := true } }
  emptyQueue (if s.running then raiseHalt .stationClash s else s)

/-- The sender notice (R85): LIVE, age 0. -/
def senderNotice (p : Peer) : Peer := { p with presence := .live, age := some 0 }

/-- The entry returns from SILENT or RETIRED (R85). -/
def comesBack (p : Peer) : Bool := p.presence = .silent || p.presence = .retired

/-- The referenced flag and the position of a DUST or BEACON frame (R82). -/
def takePosition (ref : Bool) (pos : Nat) (p : Peer) : Peer :=
  { p with referenced := ref, pos := if ref then some pos else none }

/-- The fields an entry takes from a frame (R82 to R84). -/
def takeFields (f : Frame) (p : Peer) : Peer :=
  match f with
  | .dust level trips ref pos => { takePosition ref pos p with dust := some level, trips := trips }
  | .beacon st ref halted auto deg pos lo hi plan check k seq =>
    { takePosition ref pos p with
      cycle := some st, halted := halted, auto := auto, degraded := deg, span := some { lo := lo, hi := hi },
      planId := some (plan, check), claim := if k = 0 then none else some (k, seq) }
  | .span lo hi => { p with span := some { lo := lo, hi := hi } }
  | _ => p

/-- An entry that carries the mark reports a different mismatching identity (R94). -/
def newMismatch (s : State) (old now : Peer) : Bool := old.mismatch && mismatches s now && old.planId ≠ now.planId

/-- A peer's accepted frame (R71): Peer Table whole, its notices, then the Tranche Board. The marks are computed once, after
the frame's fields, so an identity that a waking entry only held meanwhile gains none: DESIGN CHOICE (log 52). -/
def peerFrame (b : Nat) (f : Frame) (s : State) : State :=
  let old := peer s b
  let now := takeFields f (senderNotice old)
  let t := raiseIf (comesBack old) .peerBack (setPeer b now s)
  mergeFrame b false f (settlePeers s (raiseIf (newMismatch s old now) .planMismatch t))

/-- A frame from another sender, judged by R69, R70 and R72; a receiver that hunts or waits for the gap reads none. -/
def otherFrame (f : RxFrame) (s : State) : State :=
  if !listening s then s
  else if 16 < f.payload.length then countError .lengthOver16 s
  else if !rxGood f then countError .badCheck s
  else
    let s := { s with qli := { s.qli with rx := .awaitingGap } }
    match Frame.ofPayload (rxClass f) f.payload with
    | none => countForeign s
    | some g =>
      if !stationAccepted s (rxStation f) then countForeign s
      else if rxStation f = s.station then clashFound s
      else peerFrame (rxStation f) g s

/-- FRAME HEARD (R68 to R72). A frame of more than 31 bytes cannot be written in the length field (R63). -/
def execFrameHeard (h : Heard) (s : State) : Host.Outcome State Fault Refusal :=
  match h with
  | .ownEcho => .next (ownEcho s)
  | .other f => if 31 < f.payload.length then .fault .illFormed else .next (otherFrame f s)

end Sys2Proof.Machine
end

