-- ==== Sys2Proof/WellFormed.lean ====
section
/-! DEFINITION. Which command terms stand for an event that can happen at the pins. -/

namespace Sys2Proof

/-- The command codes of section 11.2 are 1 to 29; 0 is the no-operation frame (R189). -/
def namesCommand (code : Byte) : Bool := decide (1 ≤ code.toNat) && decide (code.toNat ≤ 29)

/-- A term is well formed when the outside can produce it: an unknown command's code is not 0 and names no command
(R189), and the length field of a frame has 5 bits (R63), so a heard frame carries at most 31 payload bytes. -/
def wellFormed : Instr → Bool
  | .unknownCommand code _ => !namesCommand code && decide (code.toNat ≠ 0)
  | .frameHeard (.other f) => decide (f.payload.length ≤ 31)
  | _ => true

end Sys2Proof
end

