-- ==== Sys2Proof/Machine/Link.lean ====
section
/-! DEFINITION. The meanings of RESET, the link frames without a command, SET CONFIG, RUN and the event commands
(R189 to R194). -/

namespace Sys2Proof.Machine

/-! ### Reset and frames without a command -/

/-- RESET (R193): every block in its reset state, straps and inputs sampled. The waiting queue and the counter of the
free values are the model's and are kept (log 34). -/
def execReset (straps : Straps) (pins : Pins) (s : State) : Host.Outcome State Fault Refusal :=
  .next { State.afterReset straps pins with pending := s.pending, freeIx := s.freeIx }

/-- The frame with command code 0 (R189 steps 1 and 2). -/
def execNoOperationFrame (rest : List Byte) (s : State) : Host.Outcome State Fault Refusal :=
  let s := shiftFrame (rest.length + 1) s
  .next (if 64 < rest.length + 1 then respond 0 (refuse .badLength) s else s)

/-- A frame whose code names no command (R189 steps 1 and 3). -/
def execUnknownCommand (code : Byte) (rest : List Byte) (s : State) : Host.Outcome State Fault Refusal :=
  if namesCommand code || code = 0 then .fault .illFormed
  else
    .next (respond code (refuse (if 64 < rest.length + 1 then .badLength else .unknown))
      (shiftFrame (rest.length + 1) s))

/-- A frame that came too early (R189): it shifts out 0xFF bytes and takes no command; the response stays. -/
def execLinkFrameDiscarded (clocked : Nat) (s : State) : Host.Outcome State Fault Refusal :=
  .next { s with link := { s.link with miso := List.replicate clocked 0xFF } }

/-- A frame of no bytes (R189 step 4). The code answered is a free value (log 13). -/
def execFrameOfNoBytes (s : State) : Host.Outcome State Fault Refusal :=
  .next (respond (Config.noByteCode s.freeIx) (refuse .badLength) { shiftFrame 0 s with freeIx := s.freeIx + 1 })

/-! ### SET CONFIG -/

/-- Entries numbered N or above return to their reset values (R96). -/
def keepBelow (n : Nat) (peers : List Peer) : List Peer := mapPeers (fun i p => if i < n then p else .reset) 0 peers

/-- An accepted RAIL section: the position is kept, the Peer Table follows N (R96, R138, R139). -/
def acceptRail (c : RailCfg) (s : State) : State :=
  refreshMarks { s with
    cfg := { s.cfg with rail := some c }, travel := { s.travel with count := position s * c.countsPerCm },
    peers := keepBelow c.n s.peers }

/-- An accepted SCALE section sets both zeros (R7). -/
def acceptScale (c : ScaleCfg) (s : State) : State :=
  { s with cfg := { s.cfg with scale := some c }, scale := { s.scale with workingZero := some c.zero } }

/-- An accepted FEED section sets F to F_min and drops the staged setpoint (R23); the ceiling follows (R31). -/
def acceptFeed (c : FeedCfg) (s : State) : State :=
  clampFeed { s with
    cfg := { s.cfg with feed := some c }, feed := { s.feed with setpoint := some c.fMin, staged := none } }

def acceptDust (c : DustCfg) (s : State) : State := { s with cfg := { s.cfg with dust := some c } }

def acceptLines (c : LinesCfg) (s : State) : State := { s with cfg := { s.cfg with lines := some c } }

def acceptPatterns (c : PatternsCfg) (s : State) : State := { s with cfg := { s.cfg with patterns := some c } }

/-- A section that passes its checks is accepted with DONE, one that fails is refused with BAD_VALUE (R191). -/
def judgeSection {α : Type} (parsed : Option α) (accept : α → State → State) (s : State) : State × Answer :=
  match parsed with
  | some c => (accept c s, done [])
  | none => (s, refuse .badValue)

/-- SET CONFIG (R191). -/
def setConfig (fs : List Byte) (s : State) : State × Answer :=
  if s.running then (s, refuse .configClosed)
  else
    let content := fs.drop 1
    match numAt fs 0 1 with
    | 1 => judgeSection (parseRail content) acceptRail s
    | 2 => judgeSection (parseScale content) acceptScale s
    | 3 => judgeSection (parseFeed content) acceptFeed s
    | 4 => judgeSection (parseDust content) acceptDust s
    | 5 => judgeSection (parseLines content) acceptLines s
    | 6 => judgeSection (parsePatterns content) acceptPatterns s
    | _ => (s, refuse .badValue)

def execSetConfig (rest : List Byte) (s : State) : Host.Outcome State Fault Refusal :=
  .next (hostCommand 1 fitsSection rest setConfig s)

/-! ### RUN -/

/-- Which sections have been accepted, RAIL first (R191). -/
def accepted (s : State) : List Bool :=
  [s.cfg.rail.isSome, s.cfg.scale.isSome, s.cfg.feed.isSome, s.cfg.dust.isSome, s.cfg.lines.isSome,
    s.cfg.patterns.isSome]

/-- LIVE entries whose age has reached the peer timeout become SILENT (R86). -/
def silenceOld (s : State) : State :=
  (List.range 8).foldl (fun t i =>
    if peerDue s i then silencePeer i t else t) s

/-- The Cycle Controller's start-up (R175). -/
def startCycle (s : State) : State :=
  let s := if s.spout.state = .lowered then haltAtRun .restartLowered s else s
  let s :=
    match s.spout.state, s.spout.jam with
    | .jammed, some j => haltAtRun (jamHalt j) s
    | _, _ => s
  if s.qli.clash then haltAtRun .stationClash s else s

/-- The first sampling state after RUN, when nothing at RUN has made the continuous condition hold (R45). -/
def startSampling (s : State) : State :=
  if s.dust.sampling = .sleeping then (if continuousCondition s then enterWarming 0 s else enterWaking s) else s

/-- What RUN starts, in the order of log 36 (R4, R45, R54, R56, R73, R86, R143, R175, R192). -/
def startRunning (s : State) : State :=
  let s := endLineWindow { s with running := true, seconds := 0, base := 0 }
  let s := requestConversions [.load] (silenceOld s)
  let s := handSpan (sendDust { s with dust := { s.dust with clearRepeats := 2 } })
  startSampling (refreshExposure (startCycle s))

/-- RUN (R192). -/
def runPart (_ : List Byte) (s : State) : State × Answer :=
  if s.running then (s, refuse .configClosed)
  else if (accepted s).contains false then
    (s, { status := .refused, reason := .missing, result := le 1 ((accepted s).idxOf false + 1) })
  else if (rail s).n ≤ s.station then (s, refuse .badValue)
  else (startRunning s, done [])

def execRun (rest : List Byte) (s : State) : Host.Outcome State Fault Refusal :=
  .next (hostCommand 2 (fitsLen 0) rest runPart s)

/-! ### Events -/

/-- The flag set in three bytes (R194). -/
def flagSet (fs : List Byte) : BitVec 24 := BitVec.ofNat 24 (numAt fs 0 3)

def setEvents (fs : List Byte) (s : State) : State × Answer :=
  ({ s with link := { s.link with enables := flagSet fs } }, done [])

def readEvents (_ : List Byte) (s : State) : State × Answer :=
  (s, done (le 3 s.link.flags.toNat ++ le 3 s.link.enables.toNat))

def clearEvents (fs : List Byte) (s : State) : State × Answer :=
  ({ s with link := { s.link with flags := s.link.flags &&& ~~~(flagSet fs) } }, done [])

/-- SET EVENTS (R194). -/
def execSetEvents (rest : List Byte) (s : State) : Host.Outcome State Fault Refusal :=
  .next (hostCommand 3 (fitsLen 3) rest setEvents s)

/-- READ EVENTS (R194). -/
def execReadEvents (rest : List Byte) (s : State) : Host.Outcome State Fault Refusal :=
  .next (hostCommand 4 (fitsLen 0) rest readEvents s)

/-- CLEAR EVENTS (R194). -/
def execClearEvents (rest : List Byte) (s : State) : Host.Outcome State Fault Refusal :=
  .next (hostCommand 5 (fitsLen 3) rest clearEvents s)

end Sys2Proof.Machine
end

