-- ==== Sys2Proof/Machine/Status.lean ====
section
/-! DEFINITION. The meaning of READ STATUS (R195): eleven pages, each with the fields its row names, in that order, laid
out as R198 says. Which fields carry a presence byte is log 17. -/

namespace Sys2Proof.Machine

/-- A truth value per member, first member in bit 0, in one byte. -/
def setByte (members : List Bool) : List Byte := setBytes 1 members

/-- An optional number of `n` bytes. -/
def optNum (n : Nat) (v : Option Nat) : List Byte := optBytes n (v.map (le n))

/-- An optional stretch: absent, or low and high. -/
def optStretch (v : Option Stretch) : List Byte := optBytes 4 (v.map (fun sp => le 2 sp.lo ++ le 2 sp.hi))

/-- A stretch that may be empty: presence 2 when it is (R198). -/
def stretchOrEmpty (v : Option Stretch) : List Byte :=
  match v with
  | some sp => 1 :: (le 2 sp.lo ++ le 2 sp.hi)
  | none => 2 :: List.replicate 4 0

/-- A stretch that is absent before RAIL is accepted and may be empty after (R89, R92). -/
def railStretch (s : State) (v : Option Stretch) : List Byte :=
  if s.cfg.rail.isSome then stretchOrEmpty v else optBytes 4 none

/-- A flag as one byte (R198). -/
abbrev flag (b : Bool) : List Byte := flagByte b

/-- Page 1: general. -/
def page1 (s : State) : List Byte :=
  flag s.running ++ le 1 s.station ++ setByte (accepted s) ++ le 4 s.seconds ++ le 3 s.link.flags.toNat

/-- Page 2: Scale Unit and calibration. Whether an opening and whether a closing is pending are two flag bytes: DESIGN CHOICE
(log 17). -/
def page2 (s : State) : List Byte :=
  flag s.scale.calRunning ++ le 1 s.scale.calCount ++ le 3 s.scale.calSum ++ le 1 s.scale.lastZero.code ++
  optNum 2 (s.cfg.scale.map (fun c => c.zero)) ++ optNum 2 s.scale.workingZero ++ flag s.scale.beltMoving ++
  flag s.scale.pourOpen ++ flag s.scale.pendingOpen ++ flag s.scale.pendingClose.isSome ++
  setByte [s.scale.quality.overrange, s.scale.quality.underzero, s.scale.quality.pulseSat, s.scale.quality.saturated] ++
  flag s.scale.saturated ++ le 5 s.scale.openGrams ++ le 6 s.scale.stray ++ le 6 s.scale.total ++ le 6 s.scale.closed

/-- Page 3: Feed Regulator (R41). -/
def page3 (s : State) : List Byte :=
  le 1 s.feed.mode.code ++ le 2 s.feed.acc ++ le 1 (gateCode s) ++ optNum 2 s.feed.setpoint ++ optNum 2 s.feed.staged ++
  optNum 1 (kEff s) ++ optNum 2 (cEff s) ++ le 1 (dustIndex s) ++ le 1 s.feed.count ++ le 4 s.feed.mass ++
  optNum 3 (s.feed.lastEval.map (fun e => e.1)) ++ optNum 3 (s.feed.lastEval.map (fun e => e.2.1)) ++
  optNum 3 (s.feed.lastEval.map (fun e => e.2.2)) ++ le 1 s.feed.holdoff ++ optNum 4 s.feed.share ++ flag s.feed.surge

/-- One head (R60). Before the DUST section the enabled flag is 0, without a presence byte: DESIGN CHOICE (log 17). -/
def headBytes (s : State) (k : Nat) : List Byte :=
  let h := headAt s k
  flag (headEnabled s k) ++ flag h.power ++ flag (samplePending s k) ++ listBytes (h.history.map (le 2)) ++
  optNum 2 (average h) ++ le 1 h.avgLevel.code ++ flag h.fault ++ le 1 h.faultCount ++ flag h.latch ++
  le 1 (headLevel h).code

/-- Page 4: heads D1 and D2, and the station figures (R60). -/
def page4 (s : State) : List Byte :=
  headBytes s 0 ++ headBytes s 1 ++ le 1 (stationLevel s).code ++ le 1 (tripCount s) ++ le 1 s.dust.exposure.code ++
  le 1 s.dust.sampling.code ++ flag s.dust.silenced ++ flag (hornOn s) ++ flag (lampOn s)

/-- Page 5: heads D3 and D4 (R60). -/
def page5 (s : State) : List Byte := headBytes s 2 ++ headBytes s 3

/-- One queued frame: class, tranche id of a TALLY, mark of the frame on the line (R79). -/
def entryBytes (e : TxEntry) : List Byte :=
  le 1 e.frame.cls ++
  optNum 1 (match e.frame with
    | .tally _ k _ _ => some k
    | _ => none) ++
  flag e.onLine.isSome

/-- Page 6: QLI (R79). -/
def page6 (s : State) : List Byte :=
  listBytes (s.qli.queue.map entryBytes) ++ flag s.qli.degraded ++ flag s.qli.clash ++ le 2 s.qli.winErrors ++
  le 2 s.qli.rxErrors ++ le 2 s.qli.foreign ++ le 2 s.qli.txErr ++ le 2 s.qli.txDrop

/-- The number of entries of the other stations in a presence state (R95). -/
def presenceCount (s : State) (p : Presence) : Nat :=
  ((List.range 8).filter (fun i => i != s.station && (peer s i).presence == p)).length

/-- Page 7: Peer Table summary and plan (R95, R116). Holds added, hold count, tranches added, tranche count stand in that
order: DESIGN CHOICE (log 17). -/
def page7 (s : State) : List Byte :=
  flag (agreed s) ++ railStretch s (freeStretch s) ++ le 1 (presenceCount s .unheard) ++ le 1 (presenceCount s .live) ++
  le 1 (presenceCount s .silent) ++ le 1 (presenceCount s .retired) ++ le 1 s.plan.state.code ++
  optNum 2 (s.plan.header.map (fun h => h.number)) ++ optNum 2 s.plan.check ++
  optNum 2 (s.plan.header.map (fun h => h.vesselRef)) ++ le 1 s.plan.holds.length ++
  optNum 1 (s.plan.header.map (fun h => h.holdCount)) ++ le 1 s.plan.tranches.length ++
  optNum 1 (s.plan.header.map (fun h => h.trancheCount)) ++ optNum 2 (s.plan.catchUp.map (fun t => 16000 - t)) ++
  le 1 s.plan.cursor

/-- Page 8: Claim Unit and trim figures (R136). -/
def page8 (s : State) : List Byte :=
  le 1 s.claim.state.code ++ optNum 2 (s.claim.own.map (fun r => r.plan)) ++
  optNum 1 (s.claim.own.map (fun r => r.tranche)) ++ optNum 1 (s.claim.own.map (fun r => r.hold)) ++
  optNum 1 (s.claim.own.map (fun r => r.seq)) ++ optBytes 1 (s.claim.own.map (fun r => flag r.withdrawMark)) ++
  optBytes 1 (s.claim.own.map (fun r => flag r.poured)) ++
  optNum 1 (s.claim.own.bind (fun r => r.endRequest.map (fun o => o.code))) ++
  optNum 1 (s.claim.selection.map (fun r => r.code)) ++
  optNum 1 (match s.claim.selection with
    | some (.chosen k) => some k
    | _ => none) ++
  leSigned 6 (momentNow s) ++ leSigned 6 (momentCommit s) ++ optBytes 6 (s.claim.mProj.map (leSigned 6)) ++
  optBytes 6 (s.claim.mLive.map (leSigned 6)) ++ flag s.claim.trim

/-- Page 9: Travel Unit and Spout Unit (R156). -/
def page9 (s : State) : List Byte :=
  le 3 s.travel.count ++ le 2 (position s) ++ flag s.travel.referenced ++ le 1 s.travel.state.code ++
  flag s.travel.homing ++ optNum 2 s.travel.searchStart ++ flag s.travel.held ++ le 1 s.travel.holdTicks ++
  le 1 s.travel.drive.code ++ optStretch (ownSpan s) ++ optNum 1 s.travel.targetHold ++ optNum 2 s.travel.target ++
  optNum 1 (s.travel.approach.map Dir.code) ++ le 1 s.travel.overshoots ++
  optNum 1 (s.travel.fault.map TravelFault.code) ++ flag (inWindow s) ++ flag s.pins.home ++ flag s.pins.proxLo ++
  flag s.pins.proxHi ++ le 1 s.spout.state.code ++ le 1 s.spout.state.requestCode ++
  optNum 1 (s.spout.jam.map JamCause.code) ++ optNum 2 (s.spout.ms.map (fun t => spoutLimit s - t)) ++
  flag s.pins.raised ++ flag s.pins.lowered

/-- The nine halt causes in the order of their codes (R197). -/
def haltCauses : List HaltCause :=
  [.ownTrip, .beltStall, .spoutJam, .spoutDrift, .travelFault, .hostLapse, .hostHalt, .stationClash, .restartLowered]

/-- Page 10: Cycle Controller (R176). DUST_PAUSED and TRIM_PAUSED are two flag bytes: DESIGN CHOICE (log 17). -/
def page10 (s : State) : List Byte :=
  le 1 s.cycle.state.code ++ flag s.cycle.auto ++ setByte [nearTripStands s, s.claim.trim, permitPauses s] ++
  le 1 (haltCode s.cycle.haltCause) ++ setBytes 2 (haltCauses.map (fun c => s.cycle.causes.contains c)) ++
  flag s.cycle.lapseAnswered ++ flag s.cycle.withdrawMark ++ flag s.cycle.ending ++
  optNum 1 (s.cycle.settleOutcome.map SettleOutcome.code) ++
  optNum 2 (s.cycle.settleMs.map (fun t => settleLimit s - t)) ++
  optNum 2 (s.cycle.attendMs.map (fun t => attendLimit s - t)) ++ flag (permit s) ++ le 1 (permitIndex s) ++
  flag s.pins.p1 ++ flag s.pins.p2 ++ flag s.pins.p3 ++ flag s.cycle.dustPaused ++ flag s.cycle.trimPaused ++
  le 1 (haltCode s.cycle.lastHalt)

/-- Page 11: Bill Log (R188). -/
def page11 (s : State) : List Byte :=
  le 1 s.bills.stored.length ++ flag s.bills.reserved ++ flag s.bills.identity.isSome ++ flag s.bills.openedAt.isSome ++
  le 1 (freeSlots s) ++ le 2 s.bills.seq ++ optNum 2 (s.bills.stored.head?.map (fun b => b.number)) ++
  le 2 s.bills.entries

/-- The page of a number, none outside 1 to 11 (R195). -/
def statusPage (n : Nat) (s : State) : Option (List Byte) :=
  match n with
  | 1 => some (page1 s)
  | 2 => some (page2 s)
  | 3 => some (page3 s)
  | 4 => some (page4 s)
  | 5 => some (page5 s)
  | 6 => some (page6 s)
  | 7 => some (page7 s)
  | 8 => some (page8 s)
  | 9 => some (page9 s)
  | 10 => some (page10 s)
  | 11 => some (page11 s)
  | _ => none

def readStatus (fs : List Byte) (s : State) : State × Answer :=
  match statusPage (numAt fs 0 1) s with
  | some bytes => (s, done bytes)
  | none => (s, refuse .badValue)

/-- READ STATUS (R195). -/
def execReadStatus (rest : List Byte) (s : State) : Host.Outcome State Fault Refusal :=
  .next (hostCommand 6 (fitsLen 1) rest readStatus s)

end Sys2Proof.Machine
end

