-- ==== Sys2Proof/Machine/Peers.lean ====
section
/-! DEFINITION. The meanings of FORGET PEER, READ PEER and the peer timeout (R86, R87, R95). -/

namespace Sys2Proof.Machine

/-- The entry FORGET PEER leaves (R87). -/
def Peer.retired : Peer := { Peer.reset with presence := .retired }

def forgetPeer (fs : List Byte) (s : State) : State × Answer :=
  let i := numAt fs 0 1
  if i = s.station || decide ((rail s).n ≤ i) then (s, refuse .badValue)
  else
    match (peer s i).presence with
    | .live => (s, refuse .state)
    | .retired => (s, done [])
    | _ => (settlePeers s (setPeer i Peer.retired s), done [])

/-- FORGET PEER (R87). -/
def execForgetPeer (rest : List Byte) (s : State) : Host.Outcome State Fault Refusal :=
  .next (hostCommand 11 (fitsLen 1) rest (fun fs => afterRun (forgetPeer fs)) s)

/-- The result of READ PEER (R95): the fields of R81 in order, the blocking interval, whether the entry counts. Halted, auto
and degraded are three flag bytes: DESIGN CHOICE (log 17). -/
def peerBytes (s : State) (i : Nat) : List Byte :=
  let p := if counts s i then peer s i else Peer.reset
  le 1 p.presence.code ++ flag p.referenced ++ optNum 2 p.pos ++ optStretch p.span ++
  optNum 1 (p.cycle.map CycleState.code) ++ flag p.halted ++ flag p.auto ++ flag p.degraded ++
  optBytes 4 (p.planId.map (fun x => le 2 x.1 ++ le 2 x.2)) ++ optBytes 2 (p.claim.map (fun x => le 1 x.1 ++ le 1 x.2)) ++
  optNum 1 (p.dust.map DustLevel.code) ++ le 1 p.trips ++ optNum 2 p.age ++ flag p.mismatch ++ flag p.orderFault ++
  railStretch s (blocking s i) ++ flag (counts s i)

def readPeer (fs : List Byte) (s : State) : State × Answer :=
  let i := numAt fs 0 1
  if i = s.station || decide (7 < i) then (s, refuse .badValue) else (s, done (peerBytes s i))

/-- READ PEER (R95), before RUN as after. -/
def execReadPeer (rest : List Byte) (s : State) : Host.Outcome State Fault Refusal :=
  .next (hostCommand 12 (fitsLen 1) rest readPeer s)

/-- The peer timeout of a LIVE entry after RUN whose age has reached it (R86). A sender notice taken first leaves the age
at 0, and the entry LIVE. -/
def execPeerTimeout (i : Fin 8) (s : State) : Host.Outcome State Fault Refusal :=
  .next (if peerDue s i.val then settlePeers s (silencePeer i.val s) else s)

end Sys2Proof.Machine
end

