-- ==== Sys2Proof/Machine/PlanStore.lean ====
section
/-! DEFINITION. The meanings of the plan commands, the end of the catch-up, the note tick and TAKEOVER (R97 to R104,
R114 to R116, R131, R186). -/

namespace Sys2Proof.Machine

/-! ### Building -/

/-- The header of LOAD PLAN by its layout (R98, R198). -/
def parseHeader (fs : List Byte) : PlanHeader :=
  { number := numAt fs 0 2, vesselRef := numAt fs 2 2, trimLimit := numAt fs 4 5, holdCount := numAt fs 9 1,
    trancheCount := numAt fs 10 1 }

/-- The ranges of R98; the others are the widths of their fields. -/
def headerOk (h : PlanHeader) : Bool := decide (1 ≤ h.number) && inRange h.holdCount 1 12 && inRange h.trancheCount 1 24

/-- The plan tallies return to 0 (R186). -/
def clearTallies (b : Bills) : Bills := { b with totals := List.replicate 12 0, entries := 0 }

def loadPlan (fs : List Byte) (s : State) : State × Answer :=
  if s.plan.state ≠ .none then (s, refuse .planLoaded)
  else
    let h := parseHeader fs
    if headerOk h then
      ({ s with
          plan := { state := .building, header := some h, holds := [], tranches := [], check := none, catchUp := none,
                    cursor := 0 },
          bills := { clearTallies s.bills with summary := none } }, done [])
    else (s, refuse .badValue)

/-- LOAD PLAN (R97, R98). -/
def execLoadPlan (rest : List Byte) (s : State) : Host.Outcome State Fault Refusal :=
  .next (hostCommand 13 (fitsLen 11) rest (fun fs => afterRun (loadPlan fs)) s)

/-- A command taken in BUILDING only (the table of R97). -/
def inBuilding (body : State → State × Answer) (s : State) : State × Answer :=
  match s.plan.state with
  | .none => (s, refuse .noPlan)
  | .building => body s
  | _ => (s, refuse .state)

/-- The header's counts. -/
def holdCount (s : State) : Nat :=
  match s.plan.header with
  | some h => h.holdCount
  | none => 0

def trancheCount (s : State) : Nat :=
  match s.plan.header with
  | some h => h.trancheCount
  | none => 0

/-- A hold by its layout (R99, R198). -/
def parseHold (fs : List Byte) : Hold :=
  { number := numAt fs 0 1, offset := signed16 (numAt fs 1 2), half := numAt fs 3 2, lever := signed16 (numAt fs 5 2) }

/-- The ranges of R99; the hatch offset's is its width. -/
def holdOk (h : Hold) : Bool :=
  inRange h.number 1 12 && inRange h.half 1 32767 && decide (-2000 ≤ h.lever) && decide (h.lever ≤ 2000)

/-- ADD HOLD's checks (R99): a full hold list is judged before the fields: DESIGN CHOICE (log 58). -/
def addHold (fs : List Byte) (s : State) : State × Answer :=
  let h := parseHold fs
  if holdCount s ≤ s.plan.holds.length then (s, refuse .planFull)
  else if holdOk h && (findHold s h.number).isNone then
    ({ s with plan := { s.plan with holds := s.plan.holds ++ [h] } }, done [])
  else (s, refuse .badValue)

/-- ADD HOLD (R97, R99). -/
def execAddHold (rest : List Byte) (s : State) : Host.Outcome State Fault Refusal :=
  .next (hostCommand 14 (fitsLen 7) rest (fun fs => afterRun (inBuilding (addHold fs))) s)

/-- A tranche by its layout, with the board record it starts with (R100, R105, R198). -/
def parseTranche (fs : List Byte) : Tranche :=
  { id := numAt fs 0 1, hold := numAt fs 1 1, target := numAt fs 2 4, pred := numAt fs 6 1, phase := .vacant, seq := 0,
    settled := 0 }

/-- The ranges of R100. -/
def trancheOk (t : Tranche) : Bool :=
  inRange t.id 1 24 && inRange t.hold 1 12 && inRange t.target 1 4000000 && inRange t.pred 0 24 && t.pred != t.id

/-- ADD TRANCHE's checks (R100): a full tranche list is judged before the fields: DESIGN CHOICE (log 58). -/
def addTranche (fs : List Byte) (s : State) : State × Answer :=
  let t := parseTranche fs
  if trancheCount s ≤ s.plan.tranches.length then (s, refuse .planFull)
  else if trancheOk t && (findTranche s t.id).isNone then
    ({ s with plan := { s.plan with tranches := s.plan.tranches ++ [t] } }, done [])
  else (s, refuse .badValue)

/-- ADD TRANCHE (R97, R100). -/
def execAddTranche (rest : List Byte) (s : State) : Host.Outcome State Fault Refusal :=
  .next (hostCommand 15 (fitsLen 7) rest (fun fs => afterRun (inBuilding (addTranche fs))) s)

/-! ### The seal -/

/-- Check 3 of R101 over the tranche list, with the ids that stand earlier: the first tranche whose predecessor does not. -/
def strayPredecessor : List Nat → List Tranche → Option Tranche
  | _, [] => none
  | seen, t :: ts => if t.pred = 0 || seen.contains t.pred then strayPredecessor (seen ++ [t.id]) ts else some t

/-- The check of R101 that fails first, with the hold or tranche at which it fails; check 1 names none (log 15). Of several
that fail one check the first in list order is named, and check 2 names the tranche: DESIGN CHOICE (log 45). -/
def sealFailure (s : State) : Option (Nat × Option Nat) :=
  if s.plan.holds.length ≠ holdCount s || s.plan.tranches.length ≠ trancheCount s then some (1, none)
  else
    match s.plan.tranches.find? (fun t => (findHold s t.hold).isNone) with
    | some t => some (2, some t.id)
    | none =>
      match strayPredecessor [] s.plan.tranches with
      | some t => some (3, some t.id)
      | none =>
        match s.plan.tranches.find? (fun t => decide (t.target < 1)) with
        | some t => some (4, some t.id)
        | none =>
          match s.plan.holds.find? (fun h =>
              !(decide (((rail s).railMin : Int) ≤ rawCentre s h) && decide (rawCentre s h ≤ (rail s).railMax))) with
          | some h => some (5, some h.number)
          | none => none

/-- A signed value as its 16-bit pattern (R102). -/
def pattern16 (z : Int) : Nat := (z % 65536).toNat

/-- What a hold adds to the plan check (R102). -/
def holdSum (h : Hold) : Nat := h.number + pattern16 h.offset + h.half + pattern16 h.lever

/-- What a tranche adds to the plan check (R102). -/
def trancheSum (t : Tranche) : Nat := t.id + t.hold + t.target % 65536 + t.target / 65536 + t.pred

/-- The plan check (R102). -/
def planCheck (h : PlanHeader) (holds : List Hold) (tranches : List Tranche) : Nat :=
  (h.number + (h.trimLimit % 65536 + h.trimLimit / 65536 % 65536 + h.trimLimit / 4294967296 % 256) +
    (holds.map holdSum).sum + (tranches.map trancheSum).sum) % 65536

/-- The refusal of SEAL PLAN names the check and the hold or tranche (R101); beside check 1 a free value (log 15). -/
def refuseSeal (check : Nat) (id : Option Nat) (s : State) : State × Answer :=
  match id with
  | some k => (s, { status := .refused, reason := .badValue, result := le 1 check ++ le 1 k })
  | none =>
    ({ s with freeIx := s.freeIx + 1 },
      { status := .refused, reason := .badValue, result := le 1 check ++ [Config.sealCountId s.freeIx] })

def sealPlan (_ : List Byte) (s : State) : State × Answer :=
  match sealFailure s, s.plan.header with
  | some (check, id), _ => refuseSeal check id s
  | none, some h =>
    let check := planCheck h s.plan.holds s.plan.tranches
    (settlePeers s { s with plan := { s.plan with
        state := .learning, check := some check, catchUp := some 0, cursor := 0 } }, done (le 2 check))
  | none, none => (s, refuse .noPlan)

/-- SEAL PLAN (R97, R101 to R103). -/
def execSealPlan (rest : List Byte) (s : State) : Host.Outcome State Fault Refusal :=
  .next (hostCommand 16 (fitsLen 0) rest (fun fs => afterRun (inBuilding (sealPlan fs))) s)

/-- The catch-up ends (R103): READY and PLAN_READY. -/
def execCatchUpEnd (s : State) : Host.Outcome State Fault Refusal :=
  .next (if catchUpDue s then
      raise .planReady { s with plan := { s.plan with state := .ready, catchUp := none } }
    else s)

/-! ### Closing -/

/-- A tranche's settled plus live kg on the own board. -/
def boardKg (t : Tranche) : Nat := t.settled + (boardLive t).getD 0

/-- The board total of a hold (R115). -/
def boardTotal (s : State) (hold : Nat) : Nat := ((s.plan.tranches.filter (fun t => t.hold == hold)).map boardKg).sum

/-- The plan summary (R186). -/
def buildSummary (h : PlanHeader) (s : State) : Summary :=
  { number := h.number, check := s.plan.check.getD 0, closedAt := s.seconds,
    holds := s.plan.holds.map (fun x =>
      { number := x.number, boardKg := boardTotal s x.number, ownKg := s.bills.totals.getD (x.number - 1) 0 }),
    entries := s.bills.entries, stray := s.scale.stray }

/-- The plan and the board are discarded and the tallies return to 0 (R115, R186). -/
def discardPlan (s : State) : State := { s with plan := Plan.reset, bills := clearTallies s.bills }

def closePlan (_ : List Byte) (s : State) : State × Answer :=
  match s.plan.state, s.plan.header with
  | .none, _ => (s, refuse .noPlan)
  | .building, _ => (discardPlan s, done [])
  | _, none => (s, refuse .noPlan)
  | _, some h =>
    if s.claim.state ≠ .none || s.cycle.state ≠ .idle then (s, refuse .state)
    else
      let t := discardPlan s
      (settlePeers s { t with bills := { t.bills with summary := some (buildSummary h s) } }, done [])

/-- CLOSE PLAN (R97, R115, R186). -/
def execClosePlan (rest : List Byte) (s : State) : Host.Outcome State Fault Refusal :=
  .next (hostCommand 17 (fitsLen 0) rest (fun fs => afterRun (closePlan fs)) s)

/-! ### READ TRANCHE -/

/-- The index of a board phase for its free code: OPEN 0, CLAIMED 1, DONE 2 (log 14). -/
def phaseIndex (t : Tranche) : Nat :=
  match t.phase with
  | .vacant => 0
  | .claimed _ _ => 1
  | .done => 2

/-- The remaining kg of a tranche on the own board (R105). -/
def boardRemaining (t : Tranche) : Nat := t.target - t.settled - (boardLive t).getD 0

/-- The place of a tranche in list order, from 1 (log 17). -/
def placeOf (s : State) (k : Nat) : Nat := s.plan.tranches.findIdx (fun t => t.id == k) + 1

/-- The result of READ TRANCHE (R116). -/
def trancheBytes (s : State) (t : Tranche) : List Byte :=
  le 1 t.hold ++ le 3 t.target ++ le 1 t.pred ++ le 1 (placeOf s t.id) ++ [Config.boardPhaseCode (phaseIndex t)] ++
  le 1 t.seq ++ optNum 1 (claimant t) ++ le 4 t.settled ++ optNum 4 (boardLive t) ++ le 3 (boardRemaining t) ++
  (match findHold s t.hold with
    | some h => optBytes 2 (some (leSigned 2 h.lever)) ++ optNum 2 (some (hatchCentre s h)) ++
        stretchOrEmpty (hatchWindow s h)
    | none => optBytes 2 none ++ optNum 2 none ++ optBytes 4 none)

def readTranche (fs : List Byte) (s : State) : State × Answer :=
  if s.plan.state = .none then (s, refuse .noPlan)
  else
    match findTranche s (numAt fs 0 1) with
    | some t => if inRange t.id 1 24 then (s, done (trancheBytes s t)) else (s, refuse .badValue)
    | none => (s, refuse .badValue)

/-- READ TRANCHE (R97, R116). -/
def execReadTranche (rest : List Byte) (s : State) : Host.Outcome State Fault Refusal :=
  .next (hostCommand 18 (fitsLen 1) rest (fun fs => afterRun (readTranche fs)) s)

/-! ### Notes -/

/-- A record is noted: DONE, or settled kg above 0 (R114). -/
def noted (t : Tranche) : Bool := t.phase = .done || decide (0 < t.settled)

/-- The ids 1 to 24 in the order the board considers them, from the cursor (R114). -/
def noteOrder (cursor : Nat) : List Nat := (List.range 24).map (fun i => (cursor + i) % 24 + 1)

/-- The tranche to note next. -/
def nextNote (s : State) : Option Tranche :=
  (noteOrder s.plan.cursor).findSome? (fun k => s.plan.tranches.find? (fun t => t.id == k && noted t))

/-- The NOTE of a record (the table of R114). -/
def noteFrame (plan : Nat) (t : Tranche) : Frame :=
  match t.phase with
  | .vacant => .note plan t.id false t.seq t.settled
  | .claimed _ _ => .note plan t.id false (t.seq - 1) t.settled
  | .done => .note plan t.id true t.seq t.settled

/-- A note tick (R114), taken at any phase of the time base (log 42). -/
def execNoteTick (s : State) : Host.Outcome State Fault Refusal :=
  .next (match s.plan.state, s.plan.header, nextNote s with
    | .ready, some h, some t =>
      enqueue (noteFrame h.number t) { s with plan := { s.plan with cursor := t.id } }
    | _, _, _ => s)

/-! ### TAKEOVER -/

/-- The CLOSE of a takeover (R131). -/
def takeoverFrame (plan : Nat) (t : Tranche) (claimedBy live : Nat) : Frame :=
  .close plan t.id t.seq .released claimedBy (satAdd (maxOf 32) t.settled live)

def takeover (fs : List Byte) (s : State) : State × Answer :=
  match s.plan.state, s.plan.header with
  | .none, _ => (s, refuse .noPlan)
  | .building, _ => (s, refuse .state)
  | _, none => (s, refuse .noPlan)
  | _, some h =>
    match findTranche s (numAt fs 0 1) with
    | none => (s, refuse .badValue)
    | some t =>
      match t.phase with
      | .claimed c live =>
        if c = s.station then (s, refuse .state)
        else if (peer s c).presence ≠ .silent then (s, refuse .notSilent)
        else (enqueue (takeoverFrame h.number t c live) s, done [])
      | _ => (s, refuse .state)

/-- TAKEOVER (R131). -/
def execTakeover (rest : List Byte) (s : State) : Host.Outcome State Fault Refusal :=
  .next (hostCommand 19 (fitsLen 1) rest (fun fs => afterRun (takeover fs)) s)

end Sys2Proof.Machine
end

