-- ==== Sys2Proof/Machine/Scale.lean ====
section
/-! DEFINITION. The meanings of ZERO SCALE, READ SNAPSHOT, the interval ends, CONVERSION END, the belt pulse and the
belt stall (R2, R4 to R6, R13, R14, R17, R18, R20, R21). -/

namespace Sys2Proof.Machine

/-- ZERO SCALE is accepted (R17). -/
def zeroAllowed (s : State) : Bool :=
  s.cycle.state == .idle && !s.cycle.auto && !s.scale.pourOpen && !s.scale.pendingOpen &&
    s.scale.pendingClose.isNone && !s.scale.calRunning

def zeroScale (_ : List Byte) (s : State) : State × Answer :=
  if zeroAllowed s then
    ({ s with scale := { s.scale with calRunning := true, calSkip := true, calSum := 0, calCount := 0 } }, done [])
  else (s, refuse .state)

/-- ZERO SCALE (R17). -/
def execZeroScale (rest : List Byte) (s : State) : Host.Outcome State Fault Refusal :=
  .next (hostCommand 7 (fitsLen 0) rest (fun fs => afterRun (zeroScale fs)) s)

/-- The 34 result bytes of the snapshot record (R198). -/
def snapshotBytes (r : Snapshot) : List Byte :=
  le 2 r.load ++ le 1 r.pulses ++ le 4 r.grams ++ le 2 r.fine ++ le 5 r.openGrams ++ le 6 r.stray ++ le 6 r.total ++
  setBytes 1 [r.flags.overrange, r.flags.underzero, r.flags.pulseSat, r.saturated] ++ le 2 r.acc ++ le 1 r.gate ++
  le 1 r.mode.code ++ le 1 r.exposure.code ++ le 2 r.pos

def readSnapshot (_ : List Byte) (s : State) : State × Answer :=
  match s.scale.snapshot with
  | some r => (s, done (snapshotBytes r))
  | none => (s, refuse .notRunning)

/-- READ SNAPSHOT (R21). -/
def execReadSnapshot (rest : List Byte) (s : State) : Host.Outcome State Fault Refusal :=
  .next (hostCommand 8 (fitsLen 0) rest (fun fs => afterRun (readSnapshot fs)) s)

/-- An interval end (R8). Before RUN none falls (R1); taken at any phase of the time base (log 42). -/
def execIntervalEnd (s : State) : Host.Outcome State Fault Refusal := .next (if s.running then intervalEnd s else s)

/-- The interval end brings the calibration count to 40 (R18). -/
def calibrationDue (s : State) : Bool :=
  s.scale.calRunning && !s.scale.calSkip && decide (s.scale.pulses ≠ 0) && decide (40 ≤ s.scale.calCount + 1)

/-- An interval end at which the calibration count reaches 40 (R18, log 6). -/
def execCalibrationComplete (s : State) : Host.Outcome State Fault Refusal :=
  .next (if s.running && calibrationDue s then intervalEnd s else s)

/-- An interval end at which a pending opening takes effect (R13, log 6). -/
def execPourOpen (s : State) : Host.Outcome State Fault Refusal :=
  .next (if s.running && s.scale.pendingOpen && !s.scale.pourOpen then intervalEnd s else s)

/-- An interval end at which a pending closing takes effect (R14, log 6). -/
def execPourClose (s : State) : Host.Outcome State Fault Refusal :=
  .next (if s.running && s.scale.pourOpen && s.scale.pendingClose.isSome then intervalEnd s else s)

/-- The converter clamps to 0 and 4,095 (R2). -/
def clampReading (level : Int) : Nat := min 4095 level.toNat

/-- A load reading: kept for the interval, OVERRANGE at 4,095 (R4). -/
def takeLoad (r : Nat) (s : State) : State :=
  { s with scale := { s.scale with load := r, overrange := s.scale.overrange || decide (r = 4095) } }

/-- A head's reading, processed at once (R47 to R52, R54, R56, R45, R46). -/
def takeReading (k r : Nat) (s : State) : State :=
  match s.cfg.dust with
  | some c => afterReading (settleLevels s (processReading c k r s))
  | none => s

/-- CONVERSION END (R2, R3): the reading goes to the input's owner, and the converter grants the next request. Without
a conversion under way nothing happens. -/
def execConversionEnd (level : Int) (s : State) : Host.Outcome State Fault Refusal :=
  .next (match s.conv.busy with
    | some .load => grant (takeLoad (clampReading level) (deliver .load s))
    | some (.head k) => grant (takeReading k.val (clampReading level) (deliver (.head k) s))
    | none => s)

/-- A pulse after RUN: counted up to 255, then PULSE_SAT; the belt-moving flag rises (R5, R6). -/
def beltPulse (s : State) : State :=
  { s with scale := { s.scale with
      pulses := if s.scale.pulses < 255 then s.scale.pulses + 1 else s.scale.pulses
      pulseSat := s.scale.pulseSat || decide (255 ≤ s.scale.pulses)
      beltMoving := true, beltMs := some 0 } }

/-- The belt input's stable value; its change from inactive to active after RUN is a filtered belt pulse (R5, R6). A value
the input already has is no change (log 4). -/
def execFilteredBeltPulse (active : Bool) (s : State) : Host.Outcome State Fault Refusal :=
  let t := { s with pins := { s.pins with belt := active } }
  .next (if s.running && active && !s.pins.belt then beltPulse t else t)

/-- The belt stall timer reaches its limit (R6): the flag falls, and BELT_STALL is tested (R168). -/
def execBeltStallTimeout (s : State) : Host.Outcome State Fault Refusal :=
  .next (if beltStallDue s then
      beltStallTest { s with scale := { s.scale with beltMoving := false, beltMs := none } }
    else s)

end Sys2Proof.Machine
end

