-- ==== Sys2Proof/Machine/Travel.lean ====
section
/-! DEFINITION. The meanings of HOME, MOORING SHIFT, the encoder and home marker edges, the proximity switches, the
travel timers, and the spout's limit switches and timer (R139 to R155). -/

namespace Sys2Proof.Machine

/-! ### HOME -/

/-- HOME is accepted (R141). -/
def homeAllowed (s : State) : Bool :=
  !s.travel.referenced && s.spout.state == .raised && (s.cycle.state == .idle || s.cycle.state == .halted) &&
    s.travel.state == .stopped

/-- The homing span (R141). -/
def homingSpan (s : State) : Stretch :=
  match (rail s).homeDir with
  | .high => stretchOf (bodyLo s) (bodyHi s + (rail s).homeSearch)
  | .low => stretchOf (bodyLo s - (rail s).homeSearch) (bodyHi s)

/-- The homing search starts (R141, R142, R148). -/
def startHoming (s : State) : State :=
  let s := handSpan { s with travel := { s.travel with
    searchStart := some (position s), homing := true, moveSpan := some (homingSpan s), state := .creeping } }
  proxTest { s with travel := { s.travel with drive := .creep (rail s).homeDir, stallMs := some 0 } }

def homeTower (_ : List Byte) (s : State) : State × Answer :=
  if homeAllowed s then (tellFault s.travel.state (startHoming s), done []) else (s, refuse .state)

/-- HOME (R141). -/
def execHome (rest : List Byte) (s : State) : Host.Outcome State Fault Refusal :=
  .next (hostCommand 20 (fitsLen 0) rest (fun fs => afterRun (homeTower fs)) s)

/-! ### MOORING SHIFT -/

/-- A running drive turns toward the target; at a change of direction the proximity switch is tested (R142, R151), also when the
tower stands within tolerance of the new target: DESIGN CHOICE (log 64). -/
def turnDrive (target : Nat) (s : State) : State :=
  let toward := otherSide (sideOf (position s) target)
  match s.travel.drive with
  | .off => s
  | .creep d => if d = toward then s else proxTest { s with travel := { s.travel with drive := .creep toward } }
  | .fast d => if d = toward then s else proxTest { s with travel := { s.travel with drive := .fast toward } }

/-- A target lies within the held move span. -/
def inMoveSpan (s : State) (target : Nat) : Bool :=
  match s.travel.moveSpan with
  | some sp => sp.holds target
  | none => false

/-- The Travel Unit acts on the target hold's new centre (the table of R151). An overshoot's awaited correction stands with
the new target and approach side, and a drive that is off stays off until the rest: DESIGN CHOICE (log 24). A running drive is
turned, and tested against the proximity switch (R142), before the tests of R147: DESIGN CHOICE (log 64). -/
def retarget (centre : Nat) (s : State) : State :=
  let s := { s with travel := { s.travel with target := some centre } }
  match s.travel.state with
  | .reserving => if inMoveSpan s centre then s else yieldRail s
  | .moving =>
    if inMoveSpan s centre then
      travelTests (turnDrive centre { s with travel := { s.travel with approach := some (sideOf (position s) centre) } })
    else yieldRail s
  | .creeping =>
    if inMoveSpan s centre then
      travelTests (turnDrive centre { s with travel := { s.travel with approach := some (sideOf (position s) centre) } })
    else yieldRail s
  | _ => s

/-- The hold a move is under way or waiting for, with its centre under the present vessel reference. -/
def moveHold (s : State) : Option Nat :=
  match s.travel.targetHold with
  | some k => (findHold s k).map (hatchCentre s)
  | none => none

/-- The move's answer to a new vessel reference: retargeted, or ended when the new centre lies off the rail (R151). -/
def shiftMove (s : State) : State :=
  match moveHold s with
  | some centre =>
    if targetOnRail s centre then tellFault s.travel.state (retarget centre s) else cycleOffRail (stopTravel s)
  | none => s

/-- The new vessel reference (R104, R151). -/
def takeReference (v : Nat) (s : State) : State :=
  { s with plan := { s.plan with header := s.plan.header.map (fun h => { h with vesselRef := v }) } }

def mooringShift (fs : List Byte) (s : State) : State × Answer :=
  if s.plan.state = .none then (s, refuse .noPlan)
  else
    (beltStallTest (positionAct (settleWindow s (shiftMove (takeReference (numAt fs 0 2) s)))), done [])

/-- MOORING SHIFT (R104, R151, R152). -/
def execMooringShift (rest : List Byte) (s : State) : Host.Outcome State Fault Refusal :=
  .next (hostCommand 21 (fitsLen 2) rest (fun fs => afterRun (mooringShift fs)) s)

/-! ### Edges -/

/-- The largest encoder count (R139). -/
def countLimit (s : State) : Nat := 65536 * (rail s).countsPerCm - 1

/-- A counted edge restarts the stall timer and the rest time while they run (R147, R148). So does an edge that finds the
count at its end: DESIGN CHOICE (log 48). -/
def countEdge (count : Nat) (s : State) : State :=
  { s with travel := { s.travel with
      count := count, stallMs := s.travel.stallMs.map (fun _ => 0), restMs := s.travel.restMs.map (fun _ => 0) } }

/-- ENCODER EDGE (R139): counted up or down within its limits; a change of both inputs is not counted. -/
def execEncoderEdge (m : Motion) (s : State) : Host.Outcome State Fault Refusal :=
  .next (match m with
    | .up => movePosition s (countEdge (min (countLimit s) (s.travel.count + 1)) s)
    | .down => movePosition s (countEdge (s.travel.count - 1) s)
    | .both => s)

/-- The tower referenced at the marker (R140). -/
def atMarker (s : State) : State :=
  { s with travel := { s.travel with count := (rail s).homeCm * (rail s).countsPerCm, referenced := true } }

/-- What the Travel Unit does with the position set at a marker edge; `before` is the state before it (R140, R141). -/
def markerTravel (before s : State) : State :=
  if homingUnderWay before then
    handSpanIfChanged (ownSpan before) { s with travel := noTarget (parked .stopped s.travel) }
  else if moveUnderWay before then
    if outsideSpan s then faultTravel .spanExit s
    else travelTests (handSpanIfChanged (ownSpan before) (shrinkSpan s))
  else handSpanIfChanged (ownSpan before) s

/-- A home marker edge after RUN (R140). -/
def markerEdge (s : State) : State :=
  let slip := s.travel.referenced && decide ((rail s).homeTol < dist (position s) (rail s).homeCm)
  let t := tellFault s.travel.state (markerTravel s (raiseIf slip .encoderSlip (atMarker s)))
  beltStallTest (settleWindow s (settlePeers s t))

/-- The home marker's stable value; its change from inactive to active after RUN is a home marker edge (R140). A value the
input already has is no change (log 4). -/
def execHomeMarkerEdge (active : Bool) (s : State) : Host.Outcome State Fault Refusal :=
  let t := { s with pins := { s.pins with home := active } }
  .next (if s.running && active && !s.pins.home then markerEdge t else t)

/-- A proximity switch's stable value is set. -/
def setProx (side : Dir) (active : Bool) (p : Pins) : Pins :=
  match side with
  | .low => { p with proxLo := active }
  | .high => { p with proxHi := active }

/-- A proximity switch changes its stable value; becoming active it is tested against the drive (R142). -/
def execProxSwitchActive (side : Dir) (active : Bool) (s : State) : Host.Outcome State Fault Refusal :=
  let s := { s with pins := setProx side active s.pins }
  .next (if active then tellFault s.travel.state (proxTest s) else s)

/-! ### Travel timers -/

/-- The stall timer reaches the travel stall time while the drive runs (R148). -/
def execTravelStall (s : State) : Host.Outcome State Fault Refusal :=
  .next (if stallDue s then tellFault s.travel.state (faultTravel .stall s) else s)

/-- The rest time ends (R147): arrived, or the drive starts again toward the target. -/
def execRestTimeEnd (s : State) : Host.Outcome State Fault Refusal :=
  .next (if restDue s then
      if (atRest s).2 then cycleArrived (atRest s).1 else tellFault s.travel.state (atRest s).1
    else s)

/-- The beacon tick at which a held move has been held for two beacon ticks, its overlap still present (R149, log 9). -/
def execMoveHoldExpiry (s : State) : Host.Outcome State Fault Refusal :=
  .next (if s.running && s.travel.held && decide (2 ≤ s.travel.holdTicks + 1) && overlapStands s then
      beaconTickActs s
    else s)

/-! ### The spout -/

/-- A limit switch's stable value is set. -/
def setLimit (l : Limit) (active : Bool) (p : Pins) : Pins :=
  match l with
  | .raised => { p with raised := active }
  | .lowered => { p with lowered := active }

/-- Entry to JAMMED (R155): the request dropped, SPOUT_JAM, travel stopped, the Cycle Controller told the jam cause. -/
def jamSpout (j : JamCause) (s : State) : State :=
  let s := raise .spoutJam { s with spout := { state := .jammed, jam := some j, ms := none } }
  raiseHalt (jamHalt j) (stopTravel s)

/-- A movement reaches its limit (R153, R154). -/
def spoutReaches (st : SpoutState) (s : State) : State :=
  beltStallTest (cycleSpout { s with spout := { state := st, jam := none, ms := none } })

/-- A limit switch changes after RUN (R153 to R155). -/
def limitChange (l : Limit) (active : Bool) (s : State) : State :=
  match s.spout.state, l, active with
  | .raised, .raised, false => jamSpout .drift s
  | .raised, .lowered, true => jamSpout .drift s
  | .lowered, .lowered, false => jamSpout .drift s
  | .lowered, .raised, true => jamSpout .drift s
  | .lowering, .lowered, true => spoutReaches .lowered s
  | .raising, .raised, true => spoutReaches .raised s
  | _, _, _ => s

/-- The stable value of a limit switch. -/
def limitActive (l : Limit) (p : Pins) : Bool :=
  match l with
  | .raised => p.raised
  | .lowered => p.lowered

/-- LIMIT SWITCH CHANGE: after RUN by R153 to R155, a value the switch already has being no change (log 4); before RUN the
spout state follows the limits (R157), and an entry to JAMMED there raises no SPOUT_JAM: DESIGN CHOICE (log 53). -/
def execLimitSwitchChange (l : Limit) (active : Bool) (s : State) : Host.Outcome State Fault Refusal :=
  let t := { s with pins := setLimit l active s.pins }
  .next (if s.running then (if limitActive l s.pins = active then t else limitChange l active t)
    else { t with spout := Spout.fromLimits t.pins.raised t.pins.lowered })

/-- The spout timer reaches the spout timeout during a movement (R153, R154). -/
def execSpoutTimeout (s : State) : Host.Outcome State Fault Refusal :=
  .next (if spoutDue s then jamSpout .timeout s else s)

end Sys2Proof.Machine
end

