-- ==== Sys2Proof/Machine/Dispatch.lean ====
section
/-! DEFINITION. The effect of each command on everything but the waiting queue: one arm per row of the opcode table. -/

namespace Sys2Proof.Machine

def exec (i : Instr) (s : State) : Host.Outcome State Fault Refusal :=
  match i with
  | .reset straps pins => Sys2Proof.Machine.execReset straps pins s
  | .noOperationFrame rest => Sys2Proof.Machine.execNoOperationFrame rest s
  | .unknownCommand code rest => Sys2Proof.Machine.execUnknownCommand code rest s
  | .linkFrameDiscarded clocked => Sys2Proof.Machine.execLinkFrameDiscarded clocked s
  | .setConfig rest => Sys2Proof.Machine.execSetConfig rest s
  | .run rest => Sys2Proof.Machine.execRun rest s
  | .setEvents rest => Sys2Proof.Machine.execSetEvents rest s
  | .readEvents rest => Sys2Proof.Machine.execReadEvents rest s
  | .clearEvents rest => Sys2Proof.Machine.execClearEvents rest s
  | .readStatus rest => Sys2Proof.Machine.execReadStatus rest s
  | .zeroScale rest => Sys2Proof.Machine.execZeroScale rest s
  | .readSnapshot rest => Sys2Proof.Machine.execReadSnapshot rest s
  | .setFeed rest => Sys2Proof.Machine.execSetFeed rest s
  | .ackDust rest => Sys2Proof.Machine.execAckDust rest s
  | .forgetPeer rest => Sys2Proof.Machine.execForgetPeer rest s
  | .readPeer rest => Sys2Proof.Machine.execReadPeer rest s
  | .loadPlan rest => Sys2Proof.Machine.execLoadPlan rest s
  | .addHold rest => Sys2Proof.Machine.execAddHold rest s
  | .addTranche rest => Sys2Proof.Machine.execAddTranche rest s
  | .sealPlan rest => Sys2Proof.Machine.execSealPlan rest s
  | .closePlan rest => Sys2Proof.Machine.execClosePlan rest s
  | .readTranche rest => Sys2Proof.Machine.execReadTranche rest s
  | .takeover rest => Sys2Proof.Machine.execTakeover rest s
  | .home rest => Sys2Proof.Machine.execHome rest s
  | .mooringShift rest => Sys2Proof.Machine.execMooringShift rest s
  | .start rest => Sys2Proof.Machine.execStart rest s
  | .stop rest => Sys2Proof.Machine.execStop rest s
  | .halt rest => Sys2Proof.Machine.execHalt rest s
  | .clearHalt rest => Sys2Proof.Machine.execClearHalt rest s
  | .withdraw rest => Sys2Proof.Machine.execWithdraw rest s
  | .keep rest => Sys2Proof.Machine.execKeep rest s
  | .readBill rest => Sys2Proof.Machine.execReadBill rest s
  | .readSummary rest => Sys2Proof.Machine.execReadSummary rest s
  | .intervalEnd => Sys2Proof.Machine.execIntervalEnd s
  | .windowEnd => Sys2Proof.Machine.execWindowEnd s
  | .calibrationComplete => Sys2Proof.Machine.execCalibrationComplete s
  | .pourOpen => Sys2Proof.Machine.execPourOpen s
  | .pourClose => Sys2Proof.Machine.execPourClose s
  | .conversionEnd level => Sys2Proof.Machine.execConversionEnd level s
  | .filteredBeltPulse active => Sys2Proof.Machine.execFilteredBeltPulse active s
  | .beltStallTimeout => Sys2Proof.Machine.execBeltStallTimeout s
  | .wakeWindowEnd => Sys2Proof.Machine.execWakeWindowEnd s
  | .sleepPeriodEnd => Sys2Proof.Machine.execSleepPeriodEnd s
  | .warmUpComplete => Sys2Proof.Machine.execWarmUpComplete s
  | .patternStep => Sys2Proof.Machine.execPatternStep s
  | .dustRepeat => Sys2Proof.Machine.execDustRepeat s
  | .secondTick => Sys2Proof.Machine.execSecondTick s
  | .lineWindowEnd => Sys2Proof.Machine.execLineWindowEnd s
  | .beaconTick => Sys2Proof.Machine.execBeaconTick s
  | .noteTick => Sys2Proof.Machine.execNoteTick s
  | .idleGap => Sys2Proof.Machine.execIdleGap s
  | .arbitrationLost => Sys2Proof.Machine.execArbitrationLost s
  | .frameAbandoned => Sys2Proof.Machine.execFrameAbandoned s
  | .frameHeard h => Sys2Proof.Machine.execFrameHeard h s
  | .receiveError e => Sys2Proof.Machine.execReceiveError e s
  | .peerTimeout station => Sys2Proof.Machine.execPeerTimeout station s
  | .catchUpEnd => Sys2Proof.Machine.execCatchUpEnd s
  | .encoderEdge m => Sys2Proof.Machine.execEncoderEdge m s
  | .homeMarkerEdge active => Sys2Proof.Machine.execHomeMarkerEdge active s
  | .proxSwitchActive side active => Sys2Proof.Machine.execProxSwitchActive side active s
  | .travelStall => Sys2Proof.Machine.execTravelStall s
  | .restTimeEnd => Sys2Proof.Machine.execRestTimeEnd s
  | .moveHoldExpiry => Sys2Proof.Machine.execMoveHoldExpiry s
  | .limitSwitchChange l active => Sys2Proof.Machine.execLimitSwitchChange l active s
  | .spoutTimeout => Sys2Proof.Machine.execSpoutTimeout s
  | .permitChange c active => Sys2Proof.Machine.execPermitChange c active s
  | .attendanceLapse => Sys2Proof.Machine.execAttendanceLapse s
  | .settleExpiry => Sys2Proof.Machine.execSettleExpiry s
  | .frameOfNoBytes => Sys2Proof.Machine.execFrameOfNoBytes s

end Sys2Proof.Machine
end

