-- ==== Sys2Proof/Machine/Tick.lean ====
section
/-! DEFINITION. One millisecond of the time base (R1): the timers count, and the events that fall due join the queue in
a fixed order (log 3). -/

namespace Sys2Proof.Machine

/-- The age of a LIVE or SILENT entry counts up to 65,535 (R86). -/
def agePeer (p : Peer) : Peer :=
  match p.presence with
  | .live => { p with age := p.age.map (fun a => min 65535 (a + 1)) }
  | .silent => { p with age := p.age.map (fun a => min 65535 (a + 1)) }
  | _ => p

/-- What counts before RUN as after: the peers' ages (R86) and the line window (R73). -/
def countAlways (s : State) : State :=
  { s with
    peers := s.peers.map agePeer
    qli := { s.qli with lineMs := s.qli.lineMs + 1 } }

/-- What counts from RUN on: the time base and every running timer. -/
def countRunning (s : State) : State :=
  if s.running then
    { s with
      base := (s.base + 1) % 1000
      scale := { s.scale with beltMs := countMs s.scale.beltMs }
      dust := { s.dust with
        wakeMs := countMs s.dust.wakeMs, sleepMs := countMs s.dust.sleepMs, warmMs := countMs s.dust.warmMs }
      plan := { s.plan with catchUp := countMs s.plan.catchUp }
      travel := { s.travel with stallMs := countMs s.travel.stallMs, restMs := countMs s.travel.restMs }
      spout := { s.spout with ms := countMs s.spout.ms }
      cycle := { s.cycle with settleMs := countMs s.cycle.settleMs, attendMs := countMs s.cycle.attendMs } }
  else s

/-- A command when its condition holds. -/
def dueIf (c : Bool) (i : Instr) : List Instr := if c then [i] else []

/-- The peer timeouts reached (R86). -/
def duePeers (s : State) : List Instr :=
  [0, 1, 2, 3, 4, 5, 6, 7].filterMap (fun i : Fin 8 => if peerDue s i.val then some (.peerTimeout i) else none)

/-- The timers that have reached their limits. -/
def dueTimers (s : State) : List Instr :=
  dueIf (beltStallDue s) .beltStallTimeout ++ duePeers s ++ dueIf (wakeDue s) .wakeWindowEnd ++
  dueIf (sleepDue s) .sleepPeriodEnd ++ dueIf (catchUpDue s) .catchUpEnd ++ dueIf (stallDue s) .travelStall ++
  dueIf (restDue s) .restTimeEnd ++ dueIf (spoutDue s) .spoutTimeout ++ dueIf (attendDue s) .attendanceLapse ++
  dueIf (settleDue s) .settleExpiry

/-- The periods of the time base that end at this millisecond (R1). -/
def duePeriods (s : State) : List Instr :=
  dueIf (s.base % 50 == 0) .intervalEnd ++ dueIf (s.base == 0) .secondTick ++ dueIf (lineWindowDue s) .lineWindowEnd ++
  dueIf (s.base % 250 == 0) .beaconTick ++ dueIf (s.base % 500 == 0) .noteTick ++
  dueIf (s.base % 125 == 0) .patternStep

/-- The events due after the counting. -/
def due (s : State) : List Instr :=
  if s.running then dueTimers s ++ duePeriods s else dueIf (lineWindowDue s) .lineWindowEnd

/-- One millisecond passes. -/
def tick (s : State) : State :=
  let s := countRunning (countAlways s)
  { s with pending := s.pending ++ due s }

end Sys2Proof.Machine
end

