-- ==== Sys2Proof/Safety.lean ====
section
/-! DEFINITION. What counts as a sound state of the part: the laws the spec states of the whole machine, each as a
predicate on State, and the words the statements about commands are written in. -/

namespace Sys2Proof.Machine

/-! ### Laws of the machine -/

/-- The account of R14: until a counter saturates, the scale total is stray plus closed pours plus the open pour, and
without a pour the open-pour grams are 0. -/
def AccountLaw (s : State) : Prop :=
  (s.scale.pourOpen = false → s.scale.openGrams = 0) ∧
  (s.scale.saturated = false → s.scale.total = s.scale.stray + s.scale.closed + s.scale.openGrams)

/-- The bounds of R74: at most 6 frames, in queue order by class, none that another would replace (at most one BEACON,
one SPAN, one TALLY per tranche), and at most one on the line. -/
def QueueLaw (s : State) : Prop :=
  s.qli.queue.length ≤ 6 ∧
  s.qli.queue.Pairwise (fun a b => a.frame.cls ≤ b.frame.cls) ∧
  s.qli.queue.Pairwise (fun a b => replaces b.frame a.frame = false) ∧
  s.qli.queue.Pairwise (fun a b => a.onLine = none ∨ b.onLine = none)

/-- The tranche is CLAIMED. -/
def isClaimed (t : Tranche) : Bool := (claimant t).isSome

/-- The board law of R100, R105, R107 and R114: tranche ids are distinct and lie in 1 to 24, the note cursor is such an
id or 0, no hold has two CLAIMED tranches, and no station is shown with two claims. -/
def BoardLaw (s : State) : Prop :=
  (s.plan.tranches.map (fun t => t.id)).Nodup ∧ (∀ t ∈ s.plan.tranches, 1 ≤ t.id ∧ t.id ≤ 24) ∧ s.plan.cursor ≤ 24 ∧
  ∀ t ∈ s.plan.tranches, ∀ u ∈ s.plan.tranches, isClaimed t = true → isClaimed u = true →
    (t.hold = u.hold ∨ claimant t = claimant u) → t.id = u.id

/-- The ceiling law of R30: while the mode is REGULATE or DRIBBLE, A does not exceed C_eff, A lies in 16 bits, and
A div 8192 does not exceed the ceiling index set by the exposure. -/
def CeilingLaw (s : State) : Prop :=
  s.feed.mode ≠ .shut →
    (∃ c, cEff s = some c ∧ s.feed.acc ≤ c) ∧ s.feed.acc ≤ 65535 ∧ s.feed.acc / 8192 ≤ dustIndex s

/-- R159: a calibration and automatic work do not overlap. -/
def AutoLaw (s : State) : Prop := s.cycle.auto = true → s.scale.calRunning = false

/-- The travel states in which a move is wanted or running. -/
def moveWanted (st : TravelState) : Bool := st != .stopped && st != .faulted

/-- The interlock of R150 and R153: a drive that runs has the spout RAISED, and so has every move that waits, reserves
or runs; the drive is off in every state but MOVING and CREEPING; only a move in MOVING or CREEPING is held, and no homing
search (R149); in WITHDRAWING no move is wanted (R167); before RUN the tower is parked without a claim. -/
def DriveLaw (s : State) : Prop :=
  (moveWanted s.travel.state = true → s.spout.state = .raised) ∧
  (s.travel.drive ≠ .off → s.travel.state = .moving ∨ s.travel.state = .creeping) ∧
  (s.travel.homing = true → s.travel.state = .creeping) ∧
  (s.travel.held = true → (s.travel.state = .moving ∨ s.travel.state = .creeping) ∧ s.travel.homing = false) ∧
  (s.cycle.state = .withdrawing → moveWanted s.travel.state = false) ∧
  (s.running = false → s.travel.state = .stopped ∧ s.cycle.state = .idle ∧ s.claim.state = .none)

/-! ### Words for statements -/

/-- `s` after a link frame with `rest` after its code has been answered with `a`, `t` being the state the command leaves:
the old buffer shifted out, the response in its place (R189). -/
def answered (code : Byte) (rest : List Byte) (a : Answer) (t : State) : State :=
  respond code a (shiftFrame (rest.length + 1) t)

/-- `t` answers the frame with `rest` after its code with `a`, the buffer held in `s` shifted out (R189). -/
def replied (code : Byte) (rest : List Byte) (a : Answer) (s t : State) : Prop :=
  t.link.buf = some { code := code, status := a.status, reason := a.reason, result := a.result } ∧
  t.link.miso = shiftOut s.link.buf (rest.length + 1)

/-- The event flag is set (R194). -/
def hasFlag (e : Event) (s : State) : Prop := s.link.flags.getLsbD e.bit = true

/-- What only RESET, SET CONFIG, RUN, SET EVENTS and the passing of time change: the waiting commands, the phase, the
station number, the sections, the time base, the enable set. -/
def setupKept (s t : State) : Prop :=
  t.pending = s.pending ∧ t.running = s.running ∧ t.station = s.station ∧ t.cfg = s.cfg ∧ t.base = s.base ∧
  t.link.enables = s.link.enables

/-- The frame waits in the transmit queue. -/
def isQueued (f : Frame) (s : State) : Prop := ∃ e ∈ s.qli.queue, e.frame = f

/-- A head's readings and what they gave: all of it but its power output. -/
def sameReadings (g h : Head) : Prop :=
  g.history = h.history ∧ g.avgLevel = h.avgLevel ∧ g.latch = h.latch ∧ g.fault = h.fault ∧ g.faultCount = h.faultCount

/-- `g` is head `h` after reading `r` (R48 to R51): the last four readings with their mean, rounded down; the latch set by a
trip; the average level by its table, left alone by a trip, under the order of the thresholds that R43 gives; the third
out-of-band reading in a row sets the fault flag, the third in-band one in a row clears it. -/
def readAsRuled (c : DustCfg) (r : Nat) (h g : Head) : Prop :=
  let avg := g.history.sum / g.history.length
  let outside : Prop := r ≤ 8 ∨ 4088 ≤ r
  (h.history.length < 4 → g.history = h.history ++ [r]) ∧
  (∀ w x y z, h.history = [w, x, y, z] → g.history = [x, y, z, r]) ∧
  average g = some avg ∧
  (g.latch = true ↔ h.latch = true ∨ c.tripOn ≤ r) ∧
  (c.tripOn ≤ r → g.avgLevel = h.avgLevel) ∧
  (r < c.tripOn → c.warnOff < c.warnOn → c.warnOn ≤ c.highOff → c.highOff < c.highOn →
    (h.avgLevel = .clear → g.avgLevel = if c.highOn ≤ avg then .high else if c.warnOn ≤ avg then .warn else .clear) ∧
    (h.avgLevel = .warn → g.avgLevel = if c.highOn ≤ avg then .high else if avg < c.warnOff then .clear else .warn) ∧
    (h.avgLevel = .high → g.avgLevel = if avg < c.warnOff then .clear else if avg < c.highOff then .warn else .high)) ∧
  (h.fault = false →
    (¬ outside → g.fault = false ∧ g.faultCount = 0) ∧
    (outside → h.faultCount < 2 → g.fault = false ∧ g.faultCount = h.faultCount + 1) ∧
    (outside → h.faultCount = 2 → g.fault = true ∧ g.faultCount = 0)) ∧
  (h.fault = true →
    (outside → g.fault = true ∧ g.faultCount = 0) ∧
    (¬ outside → h.faultCount < 2 → g.fault = true ∧ g.faultCount = h.faultCount + 1) ∧
    (¬ outside → h.faultCount = 2 → g.fault = false ∧ g.faultCount = 0))

/-- `f` is the DUST frame of section 3.5: the station level, the highest of the enabled heads' levels and CLEAR without one,
FAULT taken as HIGH; the number of enabled heads latched (R52); the referenced flag and the position. -/
def isDustFrame (f : Frame) (s : State) : Prop :=
  let head (k : Nat) (l : DustLevel) : Prop :=
    let h := headAt s k
    k < 4 ∧ headEnabled s k = true ∧
      l = (if h.latch = true then .trip else if h.fault = true then .high else h.avgLevel)
  ∃ level trips, f = .dust level trips s.travel.referenced (position s) ∧
    (∀ k l, head k l → l.code ≤ level.code) ∧ (level = .clear ∨ ∃ k, head k level) ∧
    trips = ([0, 1, 2, 3].map (fun k => if headEnabled s k = true ∧ (headAt s k).latch = true then 1 else 0)).sum

/-- `t` samples for continuous mode from `s` on (R46): WARMING with its timer at `warm`, no other timer running, the heads that
are on still on and every enabled head on. -/
def warms (warm : Nat) (s t : State) : Prop :=
  t.dust.sampling = .warming ∧ t.dust.warmMs = some warm ∧ t.dust.wakeMs = none ∧ t.dust.sleepMs = none ∧
  ∀ k : Fin 4, (headAt t k.val).power = ((headAt s k.val).power || headEnabled s k.val)

/-- The continuous condition has begun from `s` to `t` (R46): SLEEPING and DRAINING warm up from zero, WAKING with the time
the heads have been powered, at least the wake window once that has ended. -/
def conditionBegun (s t : State) : Prop :=
  (s.dust.sampling = .sleeping ∨ s.dust.sampling = .draining → warms 0 s t) ∧
  (s.dust.sampling = .waking → ∃ warm, warms warm s t ∧ (∀ n, s.dust.wakeMs = some n → warm = n) ∧
    (s.dust.wakeMs = none → wakeWindow s ≤ warm))

/-- Of `s` exactly the heads stay powered in `t` whose sample request is pending there, with the warm-up stopped (R46, R47):
DRAINING, or SLEEPING with the sleep timer from zero once all are off. -/
def drains (s t : State) : Prop :=
  t.dust.warmMs = none ∧ t.dust.wakeMs = none ∧
  (∀ k : Fin 4, (headAt t k.val).power = true ↔ (headAt s k.val).power = true ∧ AdcInput.head k ∈ t.conv.requests) ∧
  ((∀ k : Fin 4, (headAt t k.val).power = false) → t.dust.sampling = .sleeping ∧ t.dust.sleepMs = some 0) ∧
  (∀ k : Fin 4, (headAt t k.val).power = true → t.dust.sampling = .draining ∧ t.dust.sleepMs = none)

/-- `f` is the BEACON of R174: the cycle code, its flags, the position and the own span of R143 read together, the own plan
identity in LEARNING and READY, the claim in HELD and CLOSING (R118). -/
def isBeacon (f : Frame) (s : State) : Prop :=
  let x := position s
  let parked : Stretch := { lo := min 65535 (x - (rail s).half), hi := min 65535 (x + (rail s).half) }
  let moves : Prop := s.travel.state = .reserving ∨ s.travel.state = .moving ∨ s.travel.state = .creeping
  let sealed : Prop := s.plan.state = .learning ∨ s.plan.state = .ready
  let told : Prop := s.claim.state = .held ∨ s.claim.state = .closing
  ∃ halted span plan check tranche seq,
    f = .beacon s.cycle.state s.travel.referenced halted s.cycle.auto s.qli.degraded x span.lo span.hi plan check
      tranche seq ∧
    (halted = true ↔ s.cycle.state = .halted) ∧
    (∀ sp, s.cfg.rail ≠ none → moves → s.travel.moveSpan = some sp → span = sp) ∧ (¬ moves → span = parked) ∧
    (∀ h c, sealed → s.plan.header = some h → s.plan.check = some c → plan = h.number ∧ check = c) ∧
    (¬ sealed → plan = 0 ∧ check = 0) ∧
    (∀ r, told → s.claim.own = some r → tranche = r.tranche ∧ seq = r.seq) ∧ (¬ told → tranche = 0 ∧ seq = 0)

/-- A peer's entry but for the two marks that the own figures decide. -/
def sameReport (p q : Peer) : Prop :=
  { p with mismatch := q.mismatch, orderFault := q.orderFault } = q

/-- The record of tranche `k` becomes `v`; every other tranche is found as before. -/
def onlyRecord (k : Nat) (v : Tranche) (s t : State) : Prop :=
  findTranche t k = some v ∧ ∀ j, j ≠ k → findTranche t j = findTranche s j

/-- A CLAIMED record with `live` kg after a release: OPEN, the live kg passed into the settled kg (R105). -/
def released (v : Tranche) (live : Nat) : Tranche :=
  { v with phase := .vacant, settled := min 4294967295 (v.settled + live) }

/-- What the merge of a CLOSE, NOTE or TALLY of station `b` makes of the records of the sealed plan of header `h`, from `s`
to `t` (R108 to R110); a peer's frames and the own ones, heard as own echo, are merged alike. -/
def mergedAsRuled (b : Nat) (g : Frame) (h : PlanHeader) (s t : State) : Prop :=
  (∀ k q o c kg u, g = .close h.number k q o c kg → findTranche s k = some u →
    (q < u.seq → t.plan = s.plan) ∧
    (u.seq ≤ q → onlyRecord k { u with
      seq := q, settled := max u.settled kg,
      phase := if o = .done ∨ u.phase = .done then .done else .vacant } s t)) ∧
  (∀ k isDone q kg u, g = .note h.number k isDone q kg → findTranche s k = some u →
    (q < u.seq → t.plan = s.plan) ∧
    (u.seq < q → onlyRecord k { u with
      seq := q, settled := max u.settled kg,
      phase := if isDone = true ∨ u.phase = .done then .done else .vacant } s t) ∧
    (q = u.seq → onlyRecord k { u with
      settled := max u.settled kg, phase := if isDone = true then .done else u.phase } s t)) ∧
  (∀ k q live u, g = .tally h.number k q live → findTranche s k = some u →
    let others : Prop := ∀ v ∈ s.plan.tranches, ∀ c l, v.hold = u.hold → v.phase = .claimed c l → c = b
    (∀ l, u.phase = .claimed b l → u.seq = q → onlyRecord k { u with phase := .claimed b (max l live) } s t) ∧
    (u.phase = .vacant → q = u.seq + 1 → others →
      findTranche t k = some { u with phase := .claimed b live, seq := q } ∧
      ∀ j v, j ≠ k → findTranche s j = some v →
        (∀ l, v.phase = .claimed b l → findTranche t j = some (released v l)) ∧
        (claimant v ≠ some b → findTranche t j = some v)) ∧
    ((claimant u = some b → u.seq ≠ q) → (u.phase = .vacant → q = u.seq + 1 → ¬ others) → t.plan = s.plan))

/-- The transmit queue when the own frame has been heard (R68): without the entry on the line, unless it was renewed there. -/
def queueHeard (s : State) : List TxEntry :=
  (s.qli.queue.filter (fun x => !(x.onLine.isSome && !x.renewed))).map (fun x => { x with onLine := none, renewed := false })

/-- `t` holds what a WAITING move toward `g` makes of its repeated reservation check (R145): RESERVING with the move
formula as its span, on success alone, else WAITING with its body; the check that succeeds with the clash flag clear and
at most `room` frames queued before is RESERVING with its SPAN handed over. -/
def rechecked (g room : Nat) (s t : State) : Prop :=
  let sp := moveFormula s (position s) g
  let free : Prop := t.qli.degraded = false ∧ overlapping t sp = []
  t.travel.target = some g ∧ t.travel.targetHold = s.travel.targetHold ∧ t.travel.overshoots = s.travel.overshoots ∧
  t.travel.drive = .off ∧ t.travel.held = false ∧
  (free ∧ t.travel.state = .reserving ∧ t.travel.moveSpan = some sp ∨
    t.travel.state = .waiting ∧ t.travel.moveSpan = none) ∧
  (free → s.qli.clash = false → s.qli.queue.length ≤ room →
    t.travel.state = .reserving ∧ (s.running = true → s.cfg.rail ≠ none → isQueued (.span sp.lo sp.hi) t))

/-- What POSITIONING leaves where it asks a move to the claimed hold of `r`, from `s` with the claim HELD, the travel
STOPPED and the spout RAISED (R144, R153, R163): a move wanted or, within the tolerance, ARRIVED with its lower request
taken in the window under the permit; refused, the pour settles as WITHDRAWN or the unpoured claim is given back. -/
def asksMove (r : ClaimRec) (s t : State) : Prop :=
  (∀ h, s.travel.referenced = true → findHold s r.hold = some h → targetOnRail s (hatchCentre s h) = true →
    t.cycle.state = .positioning ∧ t.claim = s.claim ∧ t.travel.overshoots = 0 ∧
    (dist (position s) (hatchCentre s h) ≤ (rail s).arrivalTol → t.travel.state = .stopped ∧
      (inWindow s = true → permit s = true → t.spout.state = .lowering ∧ t.spout.ms = some 0) ∧
      (inWindow s = false ∨ permit s = false → t.spout.state = .raised)) ∧
    ((rail s).arrivalTol < dist (position s) (hatchCentre s h) →
      t.travel.targetHold = some r.hold ∧ t.travel.target = some (hatchCentre s h) ∧
      (t.travel.state = .reserving ∨ t.travel.state = .waiting))) ∧
  ((s.travel.referenced = false ∨ findHold s r.hold = none ∨
      ∃ h, findHold s r.hold = some h ∧ targetOnRail s (hatchCentre s h) = false) →
    (pourBegun s = true →
      t.cycle.state = .settling ∧ t.cycle.settleOutcome = some .withdrawn ∧ t.cycle.settleMs = some 0) ∧
    (pourBegun s = false → r.poured = false →
      t.claim.state = .closing ∧ t.cycle.state = .withdrawing ∧ t.cycle.ending = true))

/-- `e` is the exposure of R55, from R52's station level and the near peers: the highest contribution, CLEAR without one.
An enabled head gives TRIP while latched, else HIGH while faulted, else its average level; a near peer LIVE or SILENT
gives the level it reported, NEAR_TRIP for TRIP. -/
def isExposure (e : Exposure) (s : State) : Prop :=
  let own (k : Nat) (x : Exposure) : Prop :=
    let h := headAt s k
    k < 4 ∧ headEnabled s k = true ∧
      x = (if h.latch = true then .trip else if h.fault = true then .high
        else match h.avgLevel with
          | .clear => .clear
          | .warn => .warn
          | .high => .high
          | .trip => .trip)
  let near (i : Nat) (x : Exposure) : Prop :=
    let p := peer s i
    i < 8 ∧ i ≠ s.station ∧ (p.presence = .live ∨ p.presence = .silent) ∧
      (s.travel.referenced = false ∨ p.pos = none ∨
        ∃ y c, p.pos = some y ∧ s.cfg.dust = some c ∧ dist y (position s) ≤ c.radius) ∧
      (p.dust = some .clear ∧ x = .clear ∨ p.dust = some .warn ∧ x = .warn ∨ p.dust = some .high ∧ x = .high ∨
        p.dust = some .trip ∧ x = .nearTrip)
  (∀ n x, own n x ∨ near n x → x.code ≤ e.code) ∧ (e = .clear ∨ ∃ n, own n e ∨ near n e)

/-- `t` holds the exposure of its inputs, and a change since `s` has been told (R56 to R59, R165, R168): DUST_CHANGE, both
patterns from step 0, the horn unsilenced by a rise; at TRIP the station is HALTED with OWN_TRIP, told as that
cause joins, whatever its state, below TRIP that cause is gone, and at NEAR_TRIP or above it does not pour. -/
def exposureTold (s t : State) : Prop :=
  isExposure t.dust.exposure t ∧
  (t.dust.exposure = s.dust.exposure → t.dust.hornPos = s.dust.hornPos ∧ t.dust.lampPos = s.dust.lampPos) ∧
  (t.dust.exposure ≠ s.dust.exposure → hasFlag .dustChange t ∧ t.dust.hornPos = 0 ∧ t.dust.lampPos = 0 ∧
    (3 ≤ t.dust.exposure.code → t.cycle.state ≠ .pouring)) ∧
  (s.dust.exposure.code < t.dust.exposure.code → t.dust.silenced = false) ∧
  (t.dust.exposure = .trip → s.dust.exposure ≠ .trip →
    t.cycle.state = .halted ∧ HaltCause.ownTrip ∈ t.cycle.causes ∧
    (HaltCause.ownTrip ∉ s.cycle.causes → hasFlag .halted t)) ∧
  (s.dust.exposure = .trip → t.dust.exposure ≠ .trip → HaltCause.ownTrip ∉ t.cycle.causes)

/-- What the cycle's way into an open pour of `grams` makes of the regulator and the cycle (R24, R30, R37, R38, R164 to
R166), `s` being the part as it stands then: PAUSED without a request under a pause cause; otherwise the share of the
claimed tranche, the window from 0 and A from A_start, clamped under the ceiling; at the spill point SETTLING for DONE, in
the dribble zone DRIBBLE, else REGULATE, in POURING unless an open gate finds the belt at rest. -/
def entersPour (grams : Nat) (s t : State) : Prop :=
  (pauseStands s = true → t.cycle.state = .paused ∧ t.feed.mode = s.feed.mode ∧ t.feed.acc = s.feed.acc) ∧
  ∀ c r u, pauseStands s = false → s.feed.mode = .shut → s.cfg.feed = some c → s.claim.own = some r →
    findTranche s r.tranche = some u →
    let p := (u.target - u.settled) * 1000
    let a (k : Nat) : Nat :=
      min (min c.accMax (8192 * min (min 7 (dustIndex s)) k + 8191)) (max c.accMin c.accStart)
    let pours (m : FeedMode) : Prop :=
      t.cycle.state = .pouring ∧ t.feed.mode = m ∧ (s.scale.beltMoving = true ∨ gateCode t = 0) ∨
        t.cycle.state = .halted ∧ t.cycle.causes = [.beltStall] ∧ t.feed.mode = .shut ∧ s.scale.beltMoving = false
    t.feed.share = some p ∧ t.feed.count = 0 ∧ t.feed.mass = 0 ∧
    (p ≤ grams + c.spillKg * 1000 → t.feed.acc = a 7 ∧ t.feed.mode = .shut ∧ t.cycle.state = .settling ∧
      t.cycle.settleOutcome = some .done ∧ t.cycle.settleMs = some 0) ∧
    (grams + c.spillKg * 1000 < p → p ≤ grams + c.dribbleKg * 1000 → t.feed.acc = a c.dribbleIx ∧ pours .dribble) ∧
    (grams + c.spillKg * 1000 < p → grams + c.dribbleKg * 1000 < p → t.feed.acc = a 7 ∧ pours .regulate)

/-- `rest` is a whole frame after the code byte: field length, fields, padding, 64 bytes at most in all (R189, R198). -/
def frames (fs rest : List Byte) : Prop :=
  fs.length < 256 ∧ rest.length + 1 ≤ 64 ∧ ∃ pad, rest = BitVec.ofNat 8 fs.length :: (fs ++ pad)

/-- Of a host command: its code, the test of its field length, its bytes. -/
def hostRow : Instr → Option (Byte × (List Byte → Bool) × List Byte)
  | .setConfig rest => some (1, fitsSection, rest)
  | .run rest => some (2, fitsLen 0, rest)
  | .setEvents rest => some (3, fitsLen 3, rest)
  | .readEvents rest => some (4, fitsLen 0, rest)
  | .clearEvents rest => some (5, fitsLen 3, rest)
  | .readStatus rest => some (6, fitsLen 1, rest)
  | .zeroScale rest => some (7, fitsLen 0, rest)
  | .readSnapshot rest => some (8, fitsLen 0, rest)
  | .setFeed rest => some (9, fitsLen 2, rest)
  | .ackDust rest => some (10, fitsLen 0, rest)
  | .forgetPeer rest => some (11, fitsLen 1, rest)
  | .readPeer rest => some (12, fitsLen 1, rest)
  | .loadPlan rest => some (13, fitsLen 11, rest)
  | .addHold rest => some (14, fitsLen 7, rest)
  | .addTranche rest => some (15, fitsLen 7, rest)
  | .sealPlan rest => some (16, fitsLen 0, rest)
  | .closePlan rest => some (17, fitsLen 0, rest)
  | .readTranche rest => some (18, fitsLen 1, rest)
  | .takeover rest => some (19, fitsLen 1, rest)
  | .home rest => some (20, fitsLen 0, rest)
  | .mooringShift rest => some (21, fitsLen 2, rest)
  | .start rest => some (22, fitsLen 0, rest)
  | .stop rest => some (23, fitsLen 0, rest)
  | .halt rest => some (24, fitsLen 0, rest)
  | .clearHalt rest => some (25, fitsLen 0, rest)
  | .withdraw rest => some (26, fitsLen 0, rest)
  | .keep rest => some (27, fitsLen 0, rest)
  | .readBill rest => some (28, fitsLen 0, rest)
  | .readSummary rest => some (29, fitsLen 1, rest)
  | _ => none

/-- The commands taken before RUN too (section 11.2 of the spec). -/
def beforeRunToo : Instr → Bool
  | .setConfig _ => true
  | .run _ => true
  | .setEvents _ => true
  | .readEvents _ => true
  | .clearEvents _ => true
  | .readStatus _ => true
  | .readPeer _ => true
  | _ => false

/-! ### Result records: the words of R198, the codes of R197, the pages of READ STATUS, READ PEER, READ TRANCHE and READ BILL -/

/-- A flag, mark or level that is true or false: one byte (R198). -/
def truth (b : Bool) : List Byte := [if b = true then 1 else 0]

/-- A number of `n` bytes that may be absent: presence byte 1 and the number, or 0 and zeros (R198). -/
def numOrAbsent (n : Nat) : Option Nat → List Byte
  | some v => 1 :: le n v
  | none => 0 :: List.replicate n 0

/-- The two ends of a stretch. -/
def ends (x : Stretch) : List Byte := le 2 x.lo ++ le 2 x.hi

/-- A stretch that may be absent (R198). -/
def endsOrAbsent : Option Stretch → List Byte
  | some x => 1 :: ends x
  | none => 0 :: List.replicate 4 0

/-- A stretch that is absent before RAIL is accepted and may be empty after: presence byte 0, 2, or 1 and the ends (R198). -/
def railEnds (s : State) (x : Option Stretch) : List Byte :=
  match s.cfg.rail, x with
  | none, _ => 0 :: List.replicate 4 0
  | some _, none => 2 :: List.replicate 4 0
  | some _, some y => 1 :: ends y

/-- The number a set makes, one bit for each member, the first in bit 0 (R198). -/
def setNumber : List Bool → Nat
  | [] => 0
  | b :: bs => (if b = true then 1 else 0) + 2 * setNumber bs

/-- A number of `n` bytes in two's complement (section 11.8). -/
def twosComplement (n : Nat) (z : Int) : List Byte := le n (z % (2 ^ (8 * n) : Nat)).toNat

/-- A signed number of `n` bytes that may be absent (R198). -/
def signedOrAbsent (n : Nat) : Option Int → List Byte
  | some z => 1 :: twosComplement n z
  | none => 0 :: List.replicate n 0

/-- The codes of the enumerated fields (the table of R197), row by row. The phase of the part, the agreement state, the
calibration state and the phase in a NOTE are truth values of the model, false for code 0; the codes of the board phase are
not in the table (log 14). -/
def codesAsTabled : Prop :=
  [DustLevel.clear, .warn, .high, .trip].map DustLevel.code = [0, 1, 2, 3] ∧
  [Exposure.clear, .warn, .high, .nearTrip, .trip].map Exposure.code = [0, 1, 2, 3, 4] ∧
  [CycleState.idle, .claiming, .positioning, .pouring, .paused, .settling, .withdrawing, .halted].map CycleState.code =
    [0, 1, 2, 3, 4, 5, 6, 7] ∧
  [CloseOutcome.done, .released].map CloseOutcome.code = [0, 1] ∧
  [FeedMode.shut, .regulate, .dribble].map FeedMode.code = [0, 1, 2] ∧
  [PourOutcome.done, .withdrawn, .yielded, .takenOver, .hatchLost].map PourOutcome.code = [0, 1, 2, 3, 4] ∧
  [none, some HaltCause.ownTrip, some .beltStall, some .spoutJam, some .spoutDrift, some .travelFault, some .hostLapse,
    some .hostHalt, some .stationClash, some .restartLowered].map haltCode = [0, 1, 2, 3, 4, 5, 6, 7, 8, 9] ∧
  [Status.done, .doneClamped, .refused].map Status.code = [0, 1, 2] ∧
  [Reason.none, .unknown, .badLength, .badValue, .state, .notRunning, .configClosed, .missing, .planLoaded, .planFull,
    .noPlan, .notSilent, .billEmpty].map Reason.code = [0, 1, 2, 3, 4, 5, 6, 7, 8, 9, 10, 11, 12] ∧
  [PlanState.none, .building, .learning, .ready].map PlanState.code = [0, 1, 2, 3] ∧
  [ClaimState.none, .pending, .held, .closing].map ClaimState.code = [0, 1, 2, 3] ∧
  (∀ k, [Selection.chosen k, .notAgreed, .degraded, .dust, .unreferenced, .billFull, .noneEligible].map Selection.code =
    [0, 1, 2, 3, 4, 5, 6]) ∧
  [Presence.unheard, .live, .silent, .retired].map Presence.code = [0, 1, 2, 3] ∧
  [TravelState.stopped, .waiting, .reserving, .moving, .creeping, .faulted].map TravelState.code = [0, 1, 2, 3, 4, 5] ∧
  [TravelFault.stall, .prox, .spanExit, .overshoot].map TravelFault.code = [0, 1, 2, 3] ∧
  [Drive.off, .creep .low, .creep .high, .fast .low, .fast .high].map Drive.code = [0, 1, 2, 3, 4] ∧
  [Dir.low, .high].map Dir.code = [0, 1] ∧
  [SpoutState.raised, .lowering, .lowered, .raising, .jammed].map SpoutState.code = [0, 1, 2, 3, 4] ∧
  [SpoutState.raised, .raising, .lowering, .lowered, .jammed].map SpoutState.requestCode = [0, 1, 2, 0, 0] ∧
  [JamCause.timeout, .drift].map JamCause.code = [0, 1] ∧
  [Sampling.sleeping, .waking, .warming, .continuous, .draining].map Sampling.code = [0, 1, 2, 3, 4] ∧
  [HeadLevel.clear, .warn, .high, .trip, .fault].map HeadLevel.code = [0, 1, 2, 3, 4] ∧
  [ZeroResult.none, .ok, .noBelt, .range].map ZeroResult.code = [0, 1, 2, 3] ∧
  [SettleOutcome.done, .withdrawn].map SettleOutcome.code = [0, 1]

/-- What page 4 or 5 of READ STATUS reports of one head (R60): its length is 12 and two for each reading held. -/
def headRow (s : State) (k : Fin 4) : List Byte :=
  let h := headAt s k.val
  truth (headEnabled s k.val) ++ truth h.power ++ truth (decide (AdcInput.head k ∈ s.conv.requests)) ++
  (BitVec.ofNat 8 h.history.length :: h.history.flatMap (le 2)) ++
  numOrAbsent 2 (if h.history = [] then none else some (h.history.sum / h.history.length)) ++ le 1 h.avgLevel.code ++
  truth h.fault ++ le 1 h.faultCount ++ truth h.latch ++
  le 1 (if h.latch = true then 3 else if h.fault = true then 4 else h.avgLevel.code)

/-- The entries of the other stations in a presence state (R95). -/
def inPresence (s : State) (p : Presence) : List Byte :=
  le 1 ((List.range 8).filter (fun i => decide (i ≠ s.station ∧ (peer s i).presence = p))).length

/-- `bytes` is page `n` of READ STATUS: the fields that its row of R195 names or cites (R18, R22, R41, R60, R79, R95, R116,
R136, R156, R176, R188), in that order and laid out by R198; which of them carry a presence byte, and where R198 leaves the
form of a row open, is the model's choice (logs 17, 31). -/
def isStatusPage (n : Nat) (s : State) (bytes : List Byte) : Prop :=
  match n with
  | 1 =>
    bytes = truth s.running ++ le 1 s.station ++
      le 1 (setNumber [s.cfg.rail.isSome, s.cfg.scale.isSome, s.cfg.feed.isSome, s.cfg.dust.isSome, s.cfg.lines.isSome,
        s.cfg.patterns.isSome]) ++ le 4 s.seconds ++ le 3 s.link.flags.toNat ∧ bytes.length = 10
  | 2 =>
    bytes = truth s.scale.calRunning ++ le 1 s.scale.calCount ++ le 3 s.scale.calSum ++ le 1 s.scale.lastZero.code ++
      numOrAbsent 2 (s.cfg.scale.map (fun c => c.zero)) ++ numOrAbsent 2 s.scale.workingZero ++
      truth s.scale.beltMoving ++ truth s.scale.pourOpen ++ truth s.scale.pendingOpen ++
      truth (decide (s.scale.pendingClose ≠ none)) ++
      le 1 (setNumber [s.scale.quality.overrange, s.scale.quality.underzero, s.scale.quality.pulseSat,
        s.scale.quality.saturated]) ++ truth s.scale.saturated ++
      le 5 s.scale.openGrams ++ le 6 s.scale.stray ++ le 6 s.scale.total ++ le 6 s.scale.closed ∧ bytes.length = 41
  | 3 =>
    bytes = le 1 s.feed.mode.code ++ le 2 s.feed.acc ++ le 1 (gateCode s) ++ numOrAbsent 2 s.feed.setpoint ++
      numOrAbsent 2 s.feed.staged ++ numOrAbsent 1 (kEff s) ++ numOrAbsent 2 (cEff s) ++ le 1 (dustIndex s) ++
      le 1 s.feed.count ++ le 4 s.feed.mass ++ numOrAbsent 3 (s.feed.lastEval.map (fun e => e.1)) ++
      numOrAbsent 3 (s.feed.lastEval.map (fun e => e.2.1)) ++ numOrAbsent 3 (s.feed.lastEval.map (fun e => e.2.2)) ++
      le 1 s.feed.holdoff ++ numOrAbsent 4 s.feed.share ++ truth s.feed.surge ∧ bytes.length = 40
  | 4 =>
    bytes = headRow s 0 ++ headRow s 1 ++ le 1 (stationLevel s).code ++ le 1 (tripCount s) ++ le 1 s.dust.exposure.code ++
      le 1 s.dust.sampling.code ++ truth s.dust.silenced ++ truth (hornOn s) ++ truth (lampOn s) ∧
    bytes.length = 31 + 2 * ((headAt s 0).history.length + (headAt s 1).history.length)
  | 5 =>
    bytes = headRow s 2 ++ headRow s 3 ∧
    bytes.length = 24 + 2 * ((headAt s 2).history.length + (headAt s 3).history.length)
  | 6 =>
    bytes = (BitVec.ofNat 8 s.qli.queue.length :: s.qli.queue.flatMap (fun e => le 1 e.frame.cls ++
        numOrAbsent 1 (match e.frame with
          | .tally _ k _ _ => some k
          | _ => none) ++ truth (decide (e.onLine ≠ none)))) ++
      truth s.qli.degraded ++ truth s.qli.clash ++ le 2 s.qli.winErrors ++ le 2 s.qli.rxErrors ++ le 2 s.qli.foreign ++
      le 2 s.qli.txErr ++ le 2 s.qli.txDrop ∧
    bytes.length = 13 + 4 * s.qli.queue.length
  | 7 =>
    bytes = truth (agreed s) ++ railEnds s (freeStretch s) ++ inPresence s .unheard ++ inPresence s .live ++
      inPresence s .silent ++ inPresence s .retired ++ le 1 s.plan.state.code ++
      numOrAbsent 2 (s.plan.header.map (fun h => h.number)) ++ numOrAbsent 2 s.plan.check ++
      numOrAbsent 2 (s.plan.header.map (fun h => h.vesselRef)) ++ le 1 s.plan.holds.length ++
      numOrAbsent 1 (s.plan.header.map (fun h => h.holdCount)) ++ le 1 s.plan.tranches.length ++
      numOrAbsent 1 (s.plan.header.map (fun h => h.trancheCount)) ++
      numOrAbsent 2 (s.plan.catchUp.map (fun ms => 16000 - ms)) ++ le 1 s.plan.cursor ∧ bytes.length = 30
  | 8 =>
    bytes = le 1 s.claim.state.code ++ numOrAbsent 2 (s.claim.own.map (fun r => r.plan)) ++
      numOrAbsent 1 (s.claim.own.map (fun r => r.tranche)) ++ numOrAbsent 1 (s.claim.own.map (fun r => r.hold)) ++
      numOrAbsent 1 (s.claim.own.map (fun r => r.seq)) ++
      numOrAbsent 1 (s.claim.own.map (fun r => if r.withdrawMark = true then 1 else 0)) ++
      numOrAbsent 1 (s.claim.own.map (fun r => if r.poured = true then 1 else 0)) ++
      numOrAbsent 1 (match s.claim.own with
        | some r => r.endRequest.map CloseOutcome.code
        | none => none) ++
      numOrAbsent 1 (s.claim.selection.map Selection.code) ++
      numOrAbsent 1 (match s.claim.selection with
        | some (.chosen k) => some k
        | _ => none) ++
      twosComplement 6 (momentNow s) ++ twosComplement 6 (momentCommit s) ++
      signedOrAbsent 6 s.claim.mProj ++ signedOrAbsent 6 s.claim.mLive ++ truth s.claim.trim ∧ bytes.length = 47
  | 9 =>
    bytes = le 3 s.travel.count ++ le 2 (position s) ++ truth s.travel.referenced ++ le 1 s.travel.state.code ++
      truth s.travel.homing ++ numOrAbsent 2 s.travel.searchStart ++ truth s.travel.held ++ le 1 s.travel.holdTicks ++
      le 1 s.travel.drive.code ++
      endsOrAbsent (ownSpan s) ++ numOrAbsent 1 s.travel.targetHold ++ numOrAbsent 2 s.travel.target ++
      numOrAbsent 1 (s.travel.approach.map Dir.code) ++ le 1 s.travel.overshoots ++
      numOrAbsent 1 (s.travel.fault.map TravelFault.code) ++ truth (inWindow s) ++ truth s.pins.home ++
      truth s.pins.proxLo ++ truth s.pins.proxHi ++ le 1 s.spout.state.code ++ le 1 s.spout.state.requestCode ++
      numOrAbsent 1 (s.spout.jam.map JamCause.code) ++ numOrAbsent 2 (s.spout.ms.map (fun ms => spoutLimit s - ms)) ++
      truth s.pins.raised ++ truth s.pins.lowered ∧ bytes.length = 42
  | 10 =>
    bytes = le 1 s.cycle.state.code ++ truth s.cycle.auto ++
      le 1 (setNumber [s.running && decide (3 ≤ s.dust.exposure.code), s.claim.trim, s.running && !permit s]) ++
      le 1 (haltCode s.cycle.haltCause) ++
      le 2 (setNumber ([HaltCause.ownTrip, .beltStall, .spoutJam, .spoutDrift, .travelFault, .hostLapse, .hostHalt,
        .stationClash, .restartLowered].map (fun c => decide (c ∈ s.cycle.causes)))) ++
      truth s.cycle.lapseAnswered ++ truth s.cycle.withdrawMark ++ truth s.cycle.ending ++
      numOrAbsent 1 (s.cycle.settleOutcome.map SettleOutcome.code) ++
      numOrAbsent 2 (s.cycle.settleMs.map (fun ms => settleLimit s - ms)) ++
      numOrAbsent 2 (s.cycle.attendMs.map (fun ms => attendLimit s - ms)) ++ truth (permit s) ++ le 1 (permitIndex s) ++
      truth s.pins.p1 ++ truth s.pins.p2 ++ truth s.pins.p3 ++ truth s.cycle.dustPaused ++ truth s.cycle.trimPaused ++
      le 1 (haltCode s.cycle.lastHalt) ∧ bytes.length = 25
  | 11 =>
    bytes = le 1 s.bills.stored.length ++ truth s.bills.reserved ++ truth (decide (s.bills.identity ≠ none)) ++
      truth (decide (s.bills.openedAt ≠ none)) ++ le 1 (freeSlots s) ++ le 2 s.bills.seq ++
      numOrAbsent 2 (match s.bills.stored with
        | b :: _ => some b.number
        | [] => none) ++ le 2 s.bills.entries ∧ bytes.length = 12
  | _ => False

/-- `bytes` answers READ PEER for the entry of station `i` (R95): the fields of R81 in that order, the blocking interval, the
mark that the entry counts; an entry that does not count shows its reset contents. Halted, auto and degraded are three
flags (log 17). -/
def isPeerRecord (i : Nat) (s : State) (bytes : List Byte) : Prop :=
  let p : Peer := if i < (rail s).n then peer s i else .reset
  let pair (n : Nat) (v : Option (Nat × Nat)) : List Byte := match v with
    | some x => 1 :: (le n x.1 ++ le n x.2)
    | none => 0 :: List.replicate (2 * n) 0
  bytes = le 1 p.presence.code ++ truth p.referenced ++ numOrAbsent 2 p.pos ++ endsOrAbsent p.span ++
    numOrAbsent 1 (p.cycle.map CycleState.code) ++ truth p.halted ++ truth p.auto ++ truth p.degraded ++
    pair 2 p.planId ++ pair 1 p.claim ++ numOrAbsent 1 (p.dust.map DustLevel.code) ++ le 1 p.trips ++
    numOrAbsent 2 p.age ++ truth p.mismatch ++ truth p.orderFault ++ railEnds s (blocking s i) ++
    truth (decide (i < (rail s).n)) ∧ bytes.length = 37

/-- `bytes` answers READ TRANCHE for a tranche `u` of the plan with `before` tranches ahead of it in the list (R116, R104,
R105): its plan fields, its board record with the remaining kg, its hold's lever arm, hatch centre and hatch window. The code
of the phase is a free value of the phase (log 14); places count from 1 (log 17). -/
def isTrancheRecord (before : Nat) (u : Tranche) (s : State) (bytes : List Byte) : Prop :=
  let record : Nat × Option Nat × Option Nat := match u.phase with
    | .vacant => (0, none, none)
    | .claimed c live => (1, some c, some live)
    | .done => (2, none, none)
  let hatch : List Byte := match findHold s u.hold with
    | none => List.replicate 11 0
    | some h =>
      let centre : Nat := (min 65535 (max 0 ((vesselRef s : Int) + h.offset))).toNat
      let reach := h.half - (rail s).clearance
      signedOrAbsent 2 (some h.lever) ++ numOrAbsent 2 (some centre) ++
        (if h.half ≤ (rail s).clearance then 2 :: List.replicate 4 0
          else 1 :: ends { lo := centre - reach, hi := min 65535 (centre + reach) })
  bytes = le 1 u.hold ++ le 3 u.target ++ le 1 u.pred ++ le 1 (before + 1) ++ [Config.boardPhaseCode record.1] ++
    le 1 u.seq ++ numOrAbsent 1 record.2.1 ++ le 4 u.settled ++ numOrAbsent 4 record.2.2 ++
    le 3 (u.target - (u.settled + record.2.2.getD 0)) ++ hatch ∧ bytes.length = 33

/-- `bytes` is part `n` of the summary `m` (R195): part 0 its own figures, parts 1 and 2 its first six holds and those after
them, a board total past four bytes being a free value there (log 16). -/
def isSummaryPart (n : Nat) (m : Summary) (bytes : List Byte) : Prop :=
  let holdsOf (xs : List SummaryHold) : Prop :=
    bytes.length = 1 + 9 * xs.length ∧
    ((∀ x ∈ xs, x.boardKg < 4294967296) →
      bytes = BitVec.ofNat 8 xs.length :: xs.flatMap (fun x => le 1 x.number ++ le 4 x.boardKg ++ le 4 x.ownKg))
  match n with
  | 0 => bytes = le 2 m.number ++ le 2 m.check ++ le 4 m.closedAt ++ le 2 m.entries ++ le 6 m.stray ∧ bytes.length = 16
  | 1 => holdsOf (m.holds.take 6)
  | 2 => holdsOf ((m.holds.drop 6).take 6)
  | _ => False

/-- `bytes` is the pour entry of bill `b` with `still` bills left in the log (the table of R198). -/
def isPourEntry (b : Bill) (still : Nat) (bytes : List Byte) : Prop :=
  bytes = le 2 b.number ++ le 2 b.ident.plan ++ le 1 b.ident.tranche ++ le 1 b.ident.hold ++ le 1 b.ident.seq ++
    le 4 b.openedAt ++ le 4 b.closedAt ++ le 5 b.netGrams ++ le 4 (b.netGrams / 1000) ++ le 2 (b.netGrams % 1000) ++
    le 4 b.finalKg ++ le 1 b.outcome.code ++ le 1 (haltCode b.lastHalt) ++
    le 1 (setNumber [b.quality.overrange, b.quality.underzero, b.quality.pulseSat, b.surge, b.trimPaused, b.dustPaused,
      b.quality.saturated]) ++ le 1 still ∧ bytes.length = 34

end Sys2Proof.Machine
end

