-- ==== Sys2Proof/Certificates/Slice0/Obligations.lean ====
section
/-! DEFINITION. The statements for the provers, by chapter of the spec: the link and the host commands, weighing, feed,
dust, the quay line, peers, the plan, claims, travel and spout, the cycle, the bills, the laws of the whole machine. -/

open Sys2Proof Sys2Proof.Machine

/-! ### The queue, the link and the Host Link's own commands -/

/-- A step takes the command at the front of the queue and executes it on the state with the queue's rest (the queue is
the model's, log 2). With none waiting one millisecond passes (R1 gives the periods; that the idle step
is a millisecond, and that what falls due joins the queue, is the model's choice, log 3): before RUN only the peers' ages
and the line window count; after RUN every running timer and the phase of the time base count too, and exactly the rows
whose period ends or whose timer has reached its limit join the queue. -/
def Obligations.CommandsTakenInOrder : Prop :=
  (∀ (c : Instr) (rest : List Instr) (s : State),
    step { s with pending := c :: rest } = exec c { s with pending := rest }) ∧
  ∀ (s : State), s.pending = [] →
    let aged (p : Peer) : Peer :=
      if p.presence = .live ∨ p.presence = .silent then { p with age := p.age.map (fun a => min 65535 (a + 1)) } else p
    let counted (m : Option Nat) : Option Nat := m.map (· + 1)
    let lineMs := s.qli.lineMs + 1
    (s.running = false →
      step s = .next { s with
        peers := s.peers.map aged, qli := { s.qli with lineMs := lineMs },
        pending := if 1000 ≤ lineMs then [.lineWindowEnd] else [] }) ∧
    (s.running = true →
      ∃ due, step s = .next { s with
          base := (s.base + 1) % 1000, peers := s.peers.map aged, qli := { s.qli with lineMs := lineMs },
          scale := { s.scale with beltMs := counted s.scale.beltMs },
          dust := { s.dust with
            wakeMs := counted s.dust.wakeMs, sleepMs := counted s.dust.sleepMs, warmMs := counted s.dust.warmMs },
          plan := { s.plan with catchUp := counted s.plan.catchUp },
          travel := { s.travel with stallMs := counted s.travel.stallMs, restMs := counted s.travel.restMs },
          spout := { s.spout with ms := counted s.spout.ms },
          cycle := { s.cycle with settleMs := counted s.cycle.settleMs, attendMs := counted s.cycle.attendMs },
          pending := due } ∧
        (∀ c ∈ due, ∃ i : Fin 8, c ∈ [Instr.intervalEnd, .patternStep, .beaconTick, .noteTick, .secondTick,
          .lineWindowEnd, .beltStallTimeout, .peerTimeout i, .wakeWindowEnd, .sleepPeriodEnd, .catchUpEnd, .travelStall,
          .restTimeEnd, .spoutTimeout, .attendanceLapse, .settleExpiry]) ∧
        (Instr.intervalEnd ∈ due ↔ (s.base + 1) % 50 = 0) ∧ (Instr.patternStep ∈ due ↔ (s.base + 1) % 125 = 0) ∧
        (Instr.beaconTick ∈ due ↔ (s.base + 1) % 250 = 0) ∧ (Instr.noteTick ∈ due ↔ (s.base + 1) % 500 = 0) ∧
        (Instr.secondTick ∈ due ↔ (s.base + 1) % 1000 = 0) ∧ (Instr.lineWindowEnd ∈ due ↔ 1000 ≤ lineMs) ∧
        (Instr.beltStallTimeout ∈ due ↔ ∃ n, s.scale.beltMs = some n ∧ (scaleCfg s).beltStall ≤ n + 1) ∧
        (∀ i : Fin 8, Instr.peerTimeout i ∈ due ↔
          i.val ≠ s.station ∧ (peer s i.val).presence = .live ∧
            ∃ a, (peer s i.val).age = some a ∧ peerTimeout s ≤ min 65535 (a + 1)) ∧
        (Instr.wakeWindowEnd ∈ due ↔
          s.dust.sampling = .waking ∧ ∃ n, s.dust.wakeMs = some n ∧ wakeWindow s ≤ n + 1) ∧
        (Instr.sleepPeriodEnd ∈ due ↔
          s.dust.sampling = .sleeping ∧ ∃ n, s.dust.sleepMs = some n ∧ sleepPeriod s ≤ n + 1) ∧
        (Instr.catchUpEnd ∈ due ↔ s.plan.state = .learning ∧ ∃ n, s.plan.catchUp = some n ∧ 16000 ≤ n + 1) ∧
        (Instr.travelStall ∈ due ↔
          s.travel.drive ≠ .off ∧ ∃ n, s.travel.stallMs = some n ∧ (rail s).stallTime ≤ n + 1) ∧
        (Instr.restTimeEnd ∈ due ↔ s.travel.state = .creeping ∧ ∃ n, s.travel.restMs = some n ∧ 200 ≤ n + 1) ∧
        (Instr.spoutTimeout ∈ due ↔
          (s.spout.state = .lowering ∨ s.spout.state = .raising) ∧ ∃ n, s.spout.ms = some n ∧ spoutLimit s ≤ n + 1) ∧
        (Instr.attendanceLapse ∈ due ↔
          s.cycle.state ≠ .idle ∧ ∃ n, s.cycle.attendMs = some n ∧ attendLimit s ≤ n + 1) ∧
        (Instr.settleExpiry ∈ due ↔ ∃ n, s.cycle.settleMs = some n ∧ settleLimit s ≤ n + 1))

/-- Every term that stands for an event of the outside completes; the two kinds that stand for none stop (log 27). -/
def Obligations.WellFormedCommandsComplete : Prop :=
  ∀ (c : Instr) (s : State),
    (wellFormed c = true → ∃ t, exec c s = .next t) ∧ (wellFormed c = false → exec c s = .fault .illFormed)

/-- R189 steps 1 and 4 for every host command: a frame too long, too short, or whose fields do not have the command's
length is refused with BAD_LENGTH, and nothing outside the buffer changes. -/
def Obligations.WrongLengthRefused : Prop :=
  ∀ (c : Instr) (code : Byte) (fits : List Byte → Bool) (rest : List Byte) (s : State),
    hostRow c = some (code, fits, rest) →
    (64 < rest.length + 1 ∨ ∀ fs, frames fs rest → fits fs = false) →
      exec c s = .next (answered code rest (refuse .badLength) s)

/-- Section 11.2: before RUN every command but SET CONFIG, RUN, the event commands, READ STATUS and READ PEER is refused
with NOT_RUNNING, and nothing outside the buffer changes. -/
def Obligations.NotRunningRefused : Prop :=
  ∀ (c : Instr) (code : Byte) (fits : List Byte → Bool) (fs rest : List Byte) (s : State),
    hostRow c = some (code, fits, rest) → beforeRunToo c = false → frames fs rest → fits fs = true →
    s.running = false →
      exec c s = .next (answered code rest (refuse .notRunning) s)

/-- R189: the no-operation frame empties the buffer; one over 64 bytes, and one whose code names no command, is
answered; a frame that came too early shifts out 0xFF and leaves the response; a frame of no bytes is refused with
BAD_LENGTH, the code answered being a free value (log 13). The bytes shifted out are kept as the model's own record (log
33). -/
def Obligations.FramesWithoutCommand : Prop :=
  ∀ (code : Byte) (rest : List Byte) (n : Nat) (s : State),
    (rest.length + 1 ≤ 64 → exec (.noOperationFrame rest) s =
      .next { s with link := { s.link with miso := shiftOut s.link.buf (rest.length + 1), buf := none } }) ∧
    (64 < rest.length + 1 → exec (.noOperationFrame rest) s = .next (answered 0 rest (refuse .badLength) s)) ∧
    (29 < code.toNat → rest.length + 1 ≤ 64 →
      exec (.unknownCommand code rest) s = .next (answered code rest (refuse .unknown) s)) ∧
    (29 < code.toNat → 64 < rest.length + 1 →
      exec (.unknownCommand code rest) s = .next (answered code rest (refuse .badLength) s)) ∧
    exec (.linkFrameDiscarded n) s = .next { s with link := { s.link with miso := List.replicate n 0xFF } } ∧
    ∃ answeredCode : Byte, exec .frameOfNoBytes s = .next { s with
      freeIx := s.freeIx + 1,
      link := { s.link with
        miso := [], buf := some { code := answeredCode, status := .refused, reason := .badLength, result := [] } } }

/-- R189, R198: while a frame is clocked the buffer shifts out from its first byte: code, status, reason, result length,
result bytes, then 0x00; the empty buffer shifts out zeros. -/
def Obligations.ResponseShiftedOut : Prop :=
  ∀ (r : Response) (n : Nat),
    shiftOut none n = List.replicate n 0 ∧
    (shiftOut (some r) n).length = n ∧
    (shiftOut (some r) 4 = [r.code, BitVec.ofNat 8 r.status.code, BitVec.ofNat 8 r.reason.code,
      BitVec.ofNat 8 r.result.length]) ∧
    (shiftOut (some r) (4 + r.result.length + n)).drop 4 = r.result ++ List.replicate n 0

/-- R194: SET EVENTS replaces the enables, READ EVENTS returns flags and enables, CLEAR EVENTS clears the named flags,
before RUN as after; ATTN is active while a flag is both set and enabled. R195: status pages 1 to 11 are answered with DONE,
each with the fields its row names, at the bytes R198 gives them and with the codes of R197; any other page number is refused
with BAD_VALUE, and reading changes nothing outside the buffer. Which fields carry a presence byte, where R198 leaves a row's
form open, and the two bytes of the window error count are the model's choice (logs 17, 31). -/
def Obligations.EventAndStatusCommands : Prop :=
  ∀ (fs rest : List Byte) (s : State),
    (frames fs rest → fs.length = 3 →
      exec (.setEvents rest) s =
        .next (answered 3 rest (done []) { s with link := { s.link with enables := BitVec.ofNat 24 (number fs) } })) ∧
    (frames [] rest →
      exec (.readEvents rest) s =
        .next (answered 4 rest (done (le 3 s.link.flags.toNat ++ le 3 s.link.enables.toNat)) s)) ∧
    (frames fs rest → fs.length = 3 →
      ∃ flags : BitVec 24,
        exec (.clearEvents rest) s = .next (answered 5 rest (done []) { s with link := { s.link with flags := flags } }) ∧
        ∀ k, k < 24 → (flags.getLsbD k = true ↔ s.link.flags.getLsbD k = true ∧ (number fs).testBit k = false)) ∧
    (attn s = true ↔ ∃ k, k < 24 ∧ s.link.flags.getLsbD k = true ∧ s.link.enables.getLsbD k = true) ∧
    codesAsTabled ∧
    ∀ page : Byte, frames [page] rest →
      (1 ≤ page.toNat → page.toNat ≤ 11 → ∃ bytes, statusPage page.toNat s = some bytes ∧
        isStatusPage page.toNat s bytes ∧
        exec (.readStatus rest) s = .next (answered 6 rest (done bytes) s)) ∧
      (page.toNat = 0 ∨ 12 ≤ page.toNat →
        exec (.readStatus rest) s = .next (answered 6 rest (refuse .badValue) s))

/-- R191, R7, R23, R96, R139: before RUN a section that passes its checks is taken whole with its effects, one that fails
and a section number outside 1 to 6 are refused with BAD_VALUE; after RUN CONFIG_CLOSED. -/
def Obligations.ConfigSectionsTaken : Prop :=
  ∀ (n : Byte) (content rest : List Byte) (s : State), frames (n :: content) rest →
    (s.running = true → fitsSection (n :: content) = true →
      exec (.setConfig rest) s = .next (answered 1 rest (refuse .configClosed) s)) ∧
    (s.running = false → (n.toNat = 0 ∨ 7 ≤ n.toNat) →
      exec (.setConfig rest) s = .next (answered 1 rest (refuse .badValue) s)) ∧
    (s.running = false → n = 1 → content.length = 25 →
      (parseRail content = none → exec (.setConfig rest) s = .next (answered 1 rest (refuse .badValue) s)) ∧
      ∀ c, parseRail content = some c → ∃ t, exec (.setConfig rest) s = .next t ∧ replied 1 rest (done []) s t ∧
        t.cfg = { s.cfg with rail := some c } ∧ position t = position s ∧
        t.travel = { s.travel with count := position s * c.countsPerCm } ∧
        (∀ i, c.n ≤ i → peer t i = .reset) ∧ (∀ i, i < c.n → sameReport (peer t i) (peer s i)) ∧
        t.scale = s.scale ∧ t.feed = s.feed ∧ t.dust = s.dust ∧ t.qli = s.qli ∧ t.plan = s.plan ∧ t.claim = s.claim ∧
        t.spout = s.spout ∧ t.cycle = s.cycle ∧ t.bills = s.bills ∧ t.running = false ∧ t.pending = s.pending) ∧
    (s.running = false → n = 2 → content.length = 10 →
      (parseScale content = none → exec (.setConfig rest) s = .next (answered 1 rest (refuse .badValue) s)) ∧
      ∀ c, parseScale content = some c → exec (.setConfig rest) s = .next (answered 1 rest (done [])
        { s with cfg := { s.cfg with scale := some c }, scale := { s.scale with workingZero := some c.zero } })) ∧
    (s.running = false → n = 3 → content.length = 41 →
      (parseFeed content = none → exec (.setConfig rest) s = .next (answered 1 rest (refuse .badValue) s)) ∧
      ∀ c, parseFeed content = some c → ∃ acc, exec (.setConfig rest) s = .next (answered 1 rest (done [])
        { s with cfg := { s.cfg with feed := some c },
                 feed := { s.feed with setpoint := some c.fMin, staged := none, acc := acc } }) ∧
        (s.feed.mode = .shut → acc = s.feed.acc)) ∧
    (s.running = false → n = 4 → content.length = 17 →
      (parseDust content = none → exec (.setConfig rest) s = .next (answered 1 rest (refuse .badValue) s)) ∧
      ∀ c, parseDust content = some c → exec (.setConfig rest) s = .next (answered 1 rest (done [])
        { s with cfg := { s.cfg with dust := some c } })) ∧
    (s.running = false → n = 5 → content.length = 14 →
      (parseLines content = none → exec (.setConfig rest) s = .next (answered 1 rest (refuse .badValue) s)) ∧
      ∀ c, parseLines content = some c → exec (.setConfig rest) s = .next (answered 1 rest (done [])
        { s with cfg := { s.cfg with lines := some c } })) ∧
    (s.running = false → n = 6 → content.length = 30 →
      (parsePatterns content = none → exec (.setConfig rest) s = .next (answered 1 rest (refuse .badValue) s)) ∧
      ∀ c, parsePatterns content = some c → exec (.setConfig rest) s = .next (answered 1 rest (done [])
        { s with cfg := { s.cfg with patterns := some c } }))

/-- R7, R23, R43, R44, R138, R191: of each of the six sections, which contents are accepted, and the bytes each value
comes from (R198). That spare bits of the head enables refuse no section, and are ignored as pattern steps past a length
are, is the model's choice (log 26). -/
def Obligations.ConfigRanges : Prop :=
  ∀ (b : List Byte),
    (∀ c, parseRail b = some c ↔
      c.n = numAt b 0 1 ∧ c.railMin = numAt b 1 2 ∧ c.railMax = numAt b 3 2 ∧ c.half = numAt b 5 2 ∧
      c.gap = numAt b 7 2 ∧ c.countsPerCm = numAt b 9 1 ∧ c.homeCm = numAt b 10 2 ∧
      ((numAt b 12 1 = 0 ∧ c.homeDir = .low) ∨ (numAt b 12 1 = 1 ∧ c.homeDir = .high)) ∧
      c.homeTol = numAt b 13 2 ∧ c.homeSearch = numAt b 15 2 ∧ c.creepZone = numAt b 17 2 ∧
      c.arrivalTol = numAt b 19 2 ∧ c.stallTime = numAt b 21 2 ∧ c.clearance = numAt b 23 2 ∧
      1 ≤ c.n ∧ c.n ≤ 8 ∧ c.railMin ≤ 65534 ∧ c.railMin < c.railMax ∧ 1 ≤ c.half ∧ c.half ≤ 10000 ∧
      1 ≤ c.gap ∧ c.gap ≤ 10000 ∧ c.arrivalTol < c.gap ∧ 1 ≤ c.countsPerCm ∧ c.countsPerCm ≤ 64 ∧
      c.railMin ≤ c.homeCm ∧ c.homeCm ≤ c.railMax ∧ c.homeTol ≤ 1000 ∧ 1 ≤ c.homeSearch ∧ c.homeSearch ≤ 65535 ∧
      c.arrivalTol < c.creepZone ∧ c.creepZone ≤ 10000 ∧ c.arrivalTol ≤ 1000 ∧ 100 ≤ c.stallTime ∧
      c.stallTime ≤ 10000 ∧ c.clearance ≤ 10000) ∧
    (∀ c, parseScale b = some c ↔
      c.span = numAt b 0 2 ∧ c.zero = numAt b 2 2 ∧ c.zeroTol = numAt b 4 2 ∧ c.zeroLimit = numAt b 6 2 ∧
      c.beltStall = numAt b 8 2 ∧ 1 ≤ c.span ∧ c.span ≤ 65535 ∧ c.zero ≤ 4095 ∧ c.zeroTol ≤ 1000 ∧
      c.zeroLimit ≤ 1000 ∧ 100 ≤ c.beltStall ∧ c.beltStall ≤ 10000) ∧
    (∀ c, parseFeed b = some c ↔
      c.table = [numAt b 0 1, numAt b 1 1, numAt b 2 1, numAt b 3 1, numAt b 4 1, numAt b 5 1, numAt b 6 1,
        numAt b 7 1] ∧
      c.accMin = numAt b 8 2 ∧ c.accMax = numAt b 10 2 ∧ c.accStart = numAt b 12 2 ∧ c.stepUp = numAt b 14 2 ∧
      c.stepDown = numAt b 16 2 ∧ c.leak = signed16 (numAt b 18 2) ∧ c.window = numAt b 20 1 ∧
      c.band = numAt b 21 1 ∧ c.surgeGrams = numAt b 22 4 ∧ c.surgeStep = numAt b 26 2 ∧
      c.surgeHold = numAt b 28 1 ∧ c.fMin = numAt b 29 2 ∧ c.fMax = numAt b 31 2 ∧ c.dribbleKg = numAt b 33 2 ∧
      c.spillKg = numAt b 35 2 ∧ c.dribbleIx = numAt b 37 1 ∧ c.settleTime = numAt b 38 1 ∧
      c.warnIx = numAt b 39 1 ∧ c.highIx = numAt b 40 1 ∧
      (∀ k, k < 7 → numAt b k 1 ≤ numAt b (k + 1) 1) ∧ c.accMin ≤ c.accMax ∧ c.accMin ≤ c.accStart ∧
      c.accStart ≤ c.accMax ∧ c.stepUp ≤ 16383 ∧ c.stepDown ≤ 16383 ∧ -512 ≤ c.leak ∧ c.leak ≤ 511 ∧
      2 ≤ c.window ∧ c.window ≤ 64 ∧ 1 ≤ c.band ∧ c.band ≤ 32 ∧ 1 ≤ c.surgeGrams ∧ c.surgeGrams ≤ 67108863 ∧
      c.surgeStep ≤ 16383 ∧ 1 ≤ c.surgeHold ∧ c.surgeHold ≤ 255 ∧ 1 ≤ c.fMin ∧ c.fMin ≤ c.fMax ∧ c.fMax ≤ 5000 ∧
      c.dribbleIx ≤ 7 ∧ 1 ≤ c.settleTime ∧ c.settleTime ≤ 60 ∧ c.warnIx ≤ 7 ∧ c.highIx ≤ c.warnIx) ∧
    (∀ c, parseDust b = some c ↔
      c.enabled = [(numAt b 0 1).testBit 0, (numAt b 0 1).testBit 1, (numAt b 0 1).testBit 2,
        (numAt b 0 1).testBit 3] ∧
      c.warnOff = numAt b 1 2 ∧ c.warnOn = numAt b 3 2 ∧ c.highOff = numAt b 5 2 ∧ c.highOn = numAt b 7 2 ∧
      c.tripOn = numAt b 9 2 ∧ c.sleepPeriod = numAt b 11 2 ∧ c.wakeWindow = numAt b 13 2 ∧ c.radius = numAt b 15 2 ∧
      c.warnOff < c.warnOn ∧ c.warnOn ≤ c.highOff ∧ c.highOff < c.highOn ∧ c.highOn < c.tripOn ∧ c.tripOn ≤ 4095 ∧
      100 ≤ c.sleepPeriod ∧ c.sleepPeriod ≤ 60000 ∧ 20 ≤ c.wakeWindow ∧ c.wakeWindow ≤ 2000) ∧
    (∀ (x y : Byte), x.toNat % 16 = y.toNat % 16 → parseDust (x :: b) = parseDust (y :: b)) ∧
    (∀ c, parseLines b = some c ↔
      c.filters = [numAt b 0 1, numAt b 1 1, numAt b 2 1, numAt b 3 1, numAt b 4 1, numAt b 5 1, numAt b 6 1,
        numAt b 7 1, numAt b 8 1] ∧
      c.permits = (List.range 8).map (fun k => (numAt b 9 1).testBit k) ∧ c.spoutTimeout = numAt b 10 1 ∧
      c.attendance = numAt b 11 1 ∧ c.peerTimeout = numAt b 12 2 ∧ (∀ k, k < 9 → numAt b k 1 ≤ 15) ∧
      1 ≤ c.spoutTimeout ∧ c.spoutTimeout ≤ 255 ∧ c.attendance ≤ 60 ∧ 500 ≤ c.peerTimeout ∧
      c.peerTimeout ≤ 10000) ∧
    (∀ c, parsePatterns b = some c ↔
      c.horn.length = 5 ∧ c.lamp.length = 5 ∧
      ∀ e p q, c.horn[e]? = some p → c.lamp[e]? = some q →
        p.len = numAt b (6 * e) 1 ∧ p.steps = (List.range 16).map (fun k => (numAt b (6 * e + 1) 2).testBit k) ∧
        q.len = numAt b (6 * e + 3) 1 ∧ q.steps = (List.range 16).map (fun k => (numAt b (6 * e + 4) 2).testBit k) ∧
        2 ≤ p.len ∧ p.len ≤ 16 ∧ 2 ≤ q.len ∧ q.len ≤ 16)

/-- R192: RUN after RUN is CONFIG_CLOSED; with a section missing MISSING names the lowest; with the station number at N
or above BAD_VALUE; otherwise the part runs, the seconds from 0, the first load request raised. R54, R143: from an
empty queue the accepted RUN hands over a DUST frame and then the body SPAN, in the order of their classes (R74). R86: a
LIVE peer whose age has reached its timeout is SILENT, and no other entry changes. R175: a spout found LOWERED or JAMMED
and a clash flag halt the station, all joining the causes, the first in this order reported; else it is IDLE. R56: the
exposure is formed and told. R45: an IDLE station under CLEAR starts WAKING, any other WARMING, the enabled heads powered.
The order of what RUN starts is the model's choice (log 36). -/
def Obligations.RunJudged : Prop :=
  ∀ (rest : List Byte) (s : State), frames [] rest →
    (s.running = true → exec (.run rest) s = .next (answered 2 rest (refuse .configClosed) s)) ∧
    (∀ k, s.running = false → (accepted s)[k]? = some false → (∀ j, j < k → (accepted s)[j]? = some true) →
      exec (.run rest) s = .next (answered 2 rest
        { status := .refused, reason := .missing, result := [BitVec.ofNat 8 (k + 1)] } s)) ∧
    (s.running = false → (∀ b ∈ accepted s, b = true) → (rail s).n ≤ s.station →
      exec (.run rest) s = .next (answered 2 rest (refuse .badValue) s)) ∧
    (s.running = false → (∀ b ∈ accepted s, b = true) → s.station < (rail s).n →
      ∃ t, exec (.run rest) s = .next t ∧ replied 2 rest (done []) s t ∧ t.running = true ∧ t.seconds = 0 ∧
        t.base = 0 ∧ AdcInput.load ∈ t.conv.requests ∧ t.cfg = s.cfg ∧ t.station = s.station ∧ t.pins = s.pins ∧
        t.pending = s.pending ∧ t.link.enables = s.link.enables ∧ t.plan = s.plan ∧
        (DriveLaw s → s.qli.queue = [] → s.qli.clash = false →
          t.qli.queue.map (fun e => e.frame) = [dustFrame s, .span (body s).lo (body s).hi]) ∧
        (∀ i, i < 8 → s.peers.length = 8 →
          let silent : Prop := i ≠ s.station ∧ (peer s i).presence = .live ∧
            ∃ a, (peer s i).age = some a ∧ peerTimeout s ≤ a
          (silent → peer t i = { peer s i with presence := .silent, mismatch := false } ∧ hasFlag .peerSilent t) ∧
          (¬ silent → peer t i = peer s i)) ∧
        (DriveLaw s →
          (s.spout.state = .lowered → t.cycle.state = .halted ∧ t.cycle.haltCause = some .restartLowered ∧
            HaltCause.restartLowered ∈ t.cycle.causes ∧ hasFlag .halted t) ∧
          (s.spout.state = .jammed → s.spout.jam = some .timeout → t.cycle.state = .halted ∧
            t.cycle.haltCause = some .spoutJam ∧ HaltCause.spoutJam ∈ t.cycle.causes ∧ hasFlag .halted t) ∧
          (s.spout.state = .jammed → s.spout.jam = some .drift → t.cycle.state = .halted ∧
            t.cycle.haltCause = some .spoutDrift ∧ HaltCause.spoutDrift ∈ t.cycle.causes ∧ hasFlag .halted t) ∧
          (s.qli.clash = true → t.cycle.state = .halted ∧ HaltCause.stationClash ∈ t.cycle.causes ∧
            hasFlag .halted t ∧ (s.spout.state ≠ .lowered → s.spout.state ≠ .jammed →
              t.cycle.haltCause = some .stationClash)) ∧
          (s.spout.state ≠ .lowered → s.spout.state ≠ .jammed → s.qli.clash = false → t.dust.exposure ≠ .trip →
            t.cycle.state = .idle)) ∧
        exposureTold s t ∧
        (s.dust.sampling = .sleeping →
          (t.cycle.state = .idle → t.dust.exposure = .clear → t.dust.sampling = .waking ∧ t.dust.wakeMs = some 0) ∧
          ((t.cycle.state ≠ .idle ∨ t.dust.exposure ≠ .clear) →
            t.dust.sampling = .warming ∧ t.dust.warmMs = some 0) ∧
          ∀ k, k < s.dust.heads.length → headEnabled s k = true → (headAt t k).power = true))

/-- R193 and the reset tables of R22, R42, R61, R80, R96, R117, R137, R157, R176 and R188, row by row: RESET completes and
leaves these values. The waiting queue and the counter of the free values are the model's and stay (log 34); the
receiver's states are the model's coarse ones (log 29). -/
def Obligations.ResetValues : Prop :=
  ∀ (straps : Straps) (pins : Pins) (s : State), ∃ t, exec (.reset straps pins) s = .next t ∧
    (t.station = (if straps.strap0 then 1 else 0) + (if straps.strap1 then 2 else 0) + (if straps.strap2 then 4 else 0) ∧
      t.running = false ∧ t.seconds = 0 ∧ t.base = 0 ∧ t.pins = pins ∧
      t.cfg = { rail := none, scale := none, feed := none, dust := none, lines := none, patterns := none } ∧
      t.link.buf = none ∧ t.link.flags = 0 ∧ t.link.enables = 0 ∧ attn t = false ∧ t.pending = s.pending ∧
      t.freeIx = s.freeIx) ∧
    (t.conv.requests = [] ∧ t.conv.busy = none ∧ t.scale.load = 0 ∧ t.scale.pulses = 0 ∧
      t.scale.beltMoving = false ∧ t.scale.beltMs = none ∧ t.scale.workingZero = none ∧ t.scale.fine = 0 ∧
      t.scale.openGrams = 0 ∧ t.scale.stray = 0 ∧ t.scale.total = 0 ∧ t.scale.closed = 0 ∧ t.scale.pourOpen = false ∧
      t.scale.pendingOpen = false ∧ t.scale.pendingClose = none ∧
      t.scale.quality = { overrange := false, underzero := false, pulseSat := false, saturated := false } ∧
      t.scale.overrange = false ∧ t.scale.pulseSat = false ∧
      t.scale.prevFlags = { overrange := false, underzero := false, pulseSat := false } ∧ t.scale.saturated = false ∧
      t.scale.calRunning = false ∧ t.scale.calSum = 0 ∧ t.scale.calCount = 0 ∧ t.scale.lastZero = .none ∧
      t.scale.snapshot = none) ∧
    (t.feed.mode = .shut ∧ gateCode t = 0 ∧ t.feed.acc = 0 ∧ t.feed.count = 0 ∧ t.feed.mass = 0 ∧
      t.feed.lastEval = none ∧ t.feed.setpoint = none ∧ t.feed.staged = none ∧ dustIndex t = 7 ∧ kEff t = none ∧
      cEff t = none ∧ t.feed.holdoff = 0 ∧ t.feed.share = none ∧ t.feed.surge = false) ∧
    (t.dust.sampling = .sleeping ∧ t.dust.wakeMs = none ∧ t.dust.sleepMs = none ∧ t.dust.warmMs = none ∧
      t.dust.heads.length = 4 ∧
      (∀ k, samplePending t k = false ∧ average (headAt t k) = none ∧ headAt t k =
        { power := false, history := [], avgLevel := .clear, latch := false, fault := false, faultCount := 0 }) ∧
      stationLevel t = .clear ∧ tripCount t = 0 ∧ t.dust.exposure = .clear ∧ t.dust.repeatCount = 0 ∧
      t.dust.clearRepeats = 0 ∧ t.dust.hornPos = 0 ∧ t.dust.lampPos = 0 ∧ t.dust.silenced = false ∧
      hornOn t = false ∧ lampOn t = false) ∧
    (txdIdle t = true ∧ t.qli.rx = .hunting ∧ t.qli.queue = [] ∧ t.qli.clash = false ∧ t.qli.degraded = false ∧
      t.qli.lineMs = 0 ∧ t.qli.winErrors = 0 ∧ t.qli.rxErrors = 0 ∧ t.qli.foreign = 0 ∧ t.qli.txErr = 0 ∧
      t.qli.txDrop = 0) ∧
    (t.peers.length = 8 ∧
      (∀ i, peer t i =
        { presence := .unheard, referenced := false, pos := none, span := none, cycle := none, halted := false,
          auto := false, degraded := false, planId := none, claim := none, dust := none, trips := 0, age := none,
          mismatch := false, orderFault := false }) ∧
      ownPlanId t = none ∧ agreed t = false) ∧
    (t.plan.state = .none ∧ t.plan.header = none ∧ t.plan.holds = [] ∧ t.plan.tranches = [] ∧ t.plan.check = none ∧
      t.plan.catchUp = none ∧ t.plan.cursor = 0) ∧
    (t.claim.state = .none ∧ t.claim.own = none ∧ t.claim.selection = none ∧ t.claim.mProj = none ∧
      t.claim.mLive = none ∧ t.claim.trim = false) ∧
    (t.travel.count = 0 ∧ position t = 0 ∧ t.travel.referenced = false ∧ t.travel.state = .stopped ∧
      t.travel.homing = false ∧ t.travel.held = false ∧ t.travel.searchStart = none ∧ t.travel.holdTicks = 0 ∧
      t.travel.drive = .off ∧ drvEn t = false ∧ ownSpan t = none ∧ t.travel.targetHold = none ∧
      t.travel.target = none ∧ t.travel.approach = none ∧ t.travel.overshoots = 0 ∧ t.travel.fault = none ∧
      t.travel.stallMs = none ∧ t.travel.restMs = none ∧ inWindow t = false) ∧
    ((pins.raised = true → pins.lowered = false → t.spout = { state := .raised, jam := none, ms := none }) ∧
      (pins.raised = false → pins.lowered = true → t.spout = { state := .lowered, jam := none, ms := none }) ∧
      (pins.raised = pins.lowered → t.spout = { state := .jammed, jam := some .timeout, ms := none })) ∧
    (t.cycle.state = .idle ∧ t.cycle.auto = false ∧ pauseStands t = false ∧ t.cycle.causes = [] ∧
      t.cycle.withdrawMark = false ∧ t.cycle.ending = false ∧ t.cycle.settleOutcome = none ∧
      t.cycle.settleMs = none ∧ t.cycle.attendMs = none ∧ permit t = false ∧ t.cycle.dustPaused = false ∧
      t.cycle.trimPaused = false ∧ t.cycle.lastHalt = none) ∧
    (t.bills.stored = [] ∧ t.bills.reserved = false ∧ t.bills.identity = none ∧ t.bills.openedAt = none ∧
      freeSlots t = 32 ∧ t.bills.seq = 1 ∧ t.bills.totals = List.replicate 12 0 ∧ t.bills.entries = 0 ∧
      t.bills.summary = none)

/-! ### Weighing -/

/-- R8: the interval's grams and the new fine remainder, with the bounds the rule gives; a zero pulse count adds nothing
and carries the remainder unchanged. -/
def Obligations.IntervalTally : Prop :=
  ∀ (s : State), s.running = true → ∃ t r, exec .intervalEnd s = .next t ∧ t.scale.snapshot = some r ∧
    (let m := (s.scale.load - workingZero s) * s.scale.pulses * (scaleCfg s).span
     r.grams = (s.scale.fine + m) / 1024 ∧ t.scale.fine = (s.scale.fine + m) % 1024 ∧ r.fine = t.scale.fine ∧
     t.scale.fine ≤ 1023 ∧ r.load = s.scale.load ∧ r.pulses = s.scale.pulses ∧ t.scale.pulses = 0 ∧
     (s.scale.load ≤ 4095 → s.scale.pulses ≤ 255 → (scaleCfg s).span ≤ 65535 → s.scale.fine ≤ 1023 →
       m ≤ 68433285375 ∧ s.scale.fine + m ≤ 68433286398 ∧ r.grams ≤ 66829381) ∧
     (s.scale.load ≤ workingZero s → m = 0) ∧
     (s.scale.pulses = 0 → s.scale.fine ≤ 1023 → r.grams = 0 ∧ t.scale.fine = s.scale.fine))

/-- R10, R11, R16, R9, R4, R5: the interval's grams go to the open pour or to stray and always to the scale total, each
counter saturating; SATURATED is set exactly when a counter saturates, and the open pour keeps the interval's flags; the
next interval begins with no pulse, clear flags and a load request. R132, R134: under a HELD claim with a pour open M_live is
the moment of the vessel, exact while the masses are in range, and the TRIM cause follows it. R20: the snapshot record is
replaced whole, its figures those after the crediting, the regulation, the live trim and any opening or closing. That an
addition to a counter already at its maximum counts as a saturation too is the model's choice (log 41), and so is the
order inside an interval end (log 7). -/
def Obligations.IntervalCredited : Prop :=
  ∀ (s : State), s.running = true → ∃ t, exec .intervalEnd s = .next t ∧
    t.scale.total = min (2 ^ 48 - 1) (s.scale.total + intervalGrams s) ∧
    (s.scale.pourOpen = false →
      t.scale.stray = min (2 ^ 48 - 1) (s.scale.stray + intervalGrams s) ∧ t.scale.closed = s.scale.closed) ∧
    (s.scale.pourOpen = true → t.scale.stray = s.scale.stray) ∧
    (s.scale.pourOpen = true → s.scale.pendingClose = none →
      t.scale.pourOpen = true ∧ t.scale.closed = s.scale.closed ∧
      t.scale.openGrams = min (2 ^ 40 - 1) (s.scale.openGrams + intervalGrams s)) ∧
    (s.scale.pourOpen = false → s.scale.pendingOpen = false →
      t.scale.pourOpen = false ∧ t.scale.openGrams = s.scale.openGrams) ∧
    (s.scale.saturated = true → t.scale.saturated = true) ∧
    t.scale.pulses = 0 ∧ t.scale.overrange = false ∧ t.scale.pulseSat = false ∧
    t.scale.prevFlags = intervalFlags s ∧ AdcInput.load ∈ t.conv.requests ∧
    ((intervalFlags s).onset s.scale.prevFlags = true → hasFlag .scaleFlag t) ∧
    (let g := intervalGrams s
     let credit : Prop := 2 ^ 48 - 1 < s.scale.total + g ∨
       (s.scale.pourOpen = true ∧ 2 ^ 40 - 1 < s.scale.openGrams + g) ∨
       (s.scale.pourOpen = false ∧ 2 ^ 48 - 1 < s.scale.stray + g)
     let close : Prop := s.scale.pourOpen = true ∧ s.scale.pendingClose ≠ none ∧
       2 ^ 48 - 1 < s.scale.closed + min (2 ^ 40 - 1) (s.scale.openGrams + g)
     (t.scale.saturated = true ↔ s.scale.saturated = true ∨ credit ∨ close) ∧
     (credit ∨ close → hasFlag .scaleFlag t) ∧
     (s.scale.pourOpen = true → s.scale.pendingClose = none →
       (t.scale.quality.overrange = true ↔ s.scale.quality.overrange = true ∨ s.scale.overrange = true) ∧
       (t.scale.quality.underzero = true ↔ s.scale.quality.underzero = true ∨
         s.scale.load + (scaleCfg s).zeroTol < workingZero s) ∧
       (t.scale.quality.pulseSat = true ↔ s.scale.quality.pulseSat = true ∨ s.scale.pulseSat = true) ∧
       (t.scale.quality.saturated = true ↔ s.scale.quality.saturated = true ∨ credit)) ∧
     (∀ o, s.scale.pourOpen = true → s.scale.pendingClose = some o → s.bills.identity ≠ none →
       ∃ b, t.bills.stored = s.bills.stored ++ [b] ∧
         (b.quality.overrange = true ↔ s.scale.quality.overrange = true ∨ s.scale.overrange = true) ∧
         (b.quality.underzero = true ↔ s.scale.quality.underzero = true ∨
           s.scale.load + (scaleCfg s).zeroTol < workingZero s) ∧
         (b.quality.pulseSat = true ↔ s.scale.quality.pulseSat = true ∨ s.scale.pulseSat = true) ∧
         (b.quality.saturated = true ↔ s.scale.quality.saturated = true ∨ credit ∨ close)) ∧
     (s.scale.pourOpen = false → s.scale.pendingOpen = false → t.scale.quality = s.scale.quality)) ∧
    (∀ r x h, s.claim.state = .held → s.claim.own = some r → findHold s r.hold = some x → s.plan.header = some h →
      s.scale.pourOpen = true →
      (let live (u : Tranche) : Nat :=
         if r.tranche = u.id then min (2 ^ 40 - 1) (s.scale.openGrams + intervalGrams s) / 1000
         else (boardLive u).getD 0
       let massOn (n : Nat) : Int :=
         ((s.plan.tranches.filter (fun u => u.hold == n)).map (fun u => ((u.settled + live u : Nat) : Int))).sum
       let m : Int := (s.plan.holds.map (fun y => y.lever * massOn y.number)).sum
       ∃ mLive, t.claim.mLive = some mLive ∧
         ((s.plan.holds.map (fun y => y.number)).Nodup → (∀ y ∈ s.plan.holds, y.lever.natAbs ≤ 2000) →
           (s.plan.tranches.map (fun u => u.settled + live u)).sum ≤ 2 ^ 36 → mLive = m) ∧
         (s.scale.pendingClose ≠ none → t.claim.trim = false) ∧
         (s.scale.pendingClose = none → s.claim.trim = false →
           (t.claim.trim = true ↔ h.trimLimit < mLive.natAbs ∧ x.lever ≠ 0 ∧ mLive.sign = x.lever.sign)) ∧
         (s.scale.pendingClose = none → s.claim.trim = true →
           (t.claim.trim = true ↔ h.trimLimit * 15 / 16 < mLive.natAbs ∧ mLive.sign = x.lever.sign)) ∧
         (t.claim.trim = true → t.cycle.state ≠ .pouring))) ∧
    (∃ r, t.scale.snapshot = some r ∧ r.load = s.scale.load ∧ r.pulses = s.scale.pulses ∧ r.grams = intervalGrams s ∧
      r.fine = t.scale.fine ∧
      r.openGrams = (if s.scale.pourOpen = true then min (2 ^ 40 - 1) (s.scale.openGrams + r.grams) else 0) ∧
      r.stray = t.scale.stray ∧ r.total = t.scale.total ∧
      r.flags.overrange = s.scale.overrange ∧ r.flags.pulseSat = s.scale.pulseSat ∧
      (r.flags.underzero = true ↔ s.scale.load + (scaleCfg s).zeroTol < workingZero s) ∧
      r.saturated = t.scale.saturated ∧ r.acc = t.feed.acc ∧ r.gate = gateCode t ∧ r.mode = t.feed.mode ∧
      r.exposure = s.dust.exposure ∧ r.pos = position s) ∧
    setupKept s t ∧ t.seconds = s.seconds ∧ t.pins = s.pins ∧ t.plan = s.plan ∧ t.peers = s.peers ∧
    t.travel.count = s.travel.count ∧ t.travel.referenced = s.travel.referenced

/-- R27, R29 to R31, R33 to R38, R166: an interval end while the feed regulates an open pour. The window takes the grams. A
surge with the hold-off at 0 cuts A, starts the hold-off and sets the SURGE flag; otherwise the hold-off counts down. At
the W-th interval the staged setpoint becomes active, T, U and Lo are formed, A goes down above U, up below Lo and by the
leak between them, and the window starts again. After each step A is clamped, the ceiling winning. The spill test then
shuts the feed and settles a pouring station; else the dribble test lowers the ceiling. That WINDOW END is the whole
interval end is the model's reading (log 6), and so is that the regulator acts before the trim check of the same interval
end, which the outcomes of both tests rest on (log 7). -/
def Obligations.WindowEvaluated : Prop :=
  ∀ (s : State) (c : FeedCfg), s.running = true → s.cfg.feed = some c → s.feed.mode ≠ .shut → s.scale.pourOpen = true →
    let clamp (k : Nat) (a : Int) : Int :=
      min ((min c.accMax (8192 * min 7 (min (dustIndex s) k) + 8191) : Nat) : Int) (max (c.accMin : Int) a)
    let k : Nat := if s.feed.mode = .dribble then c.dribbleIx else 7
    let g := intervalGrams s
    let surges : Bool := decide (c.surgeGrams < g) && decide (s.feed.holdoff = 0)
    let cut : Int := if surges = true then clamp k ((s.feed.acc : Int) - c.surgeStep) else s.feed.acc
    let full : Bool := decide (c.window ≤ s.feed.count + 1)
    let f := s.feed.staged.getD (s.feed.setpoint.getD 0)
    let target := f * c.window * 125 / 9
    let upper := target + target * c.band / 64
    let lower := target - target * c.band / 64
    let mass := s.feed.mass + g
    let stepped : Int :=
      if upper < mass then clamp k (cut - c.stepDown)
      else if mass < lower then clamp k (cut + c.stepUp)
      else clamp k (cut + c.leak)
    let a : Int := if full = true then stepped else cut
    let grams := min (2 ^ 40 - 1) (s.scale.openGrams + g)
    let met (kg : Nat) : Prop := ∃ p, s.feed.share = some p ∧ p ≤ grams + kg * 1000
    ∃ t, exec .intervalEnd s = .next t ∧
      (full = true → exec .windowEnd s = .next t ∧ t.feed.setpoint = some f ∧ t.feed.staged = none ∧
        t.feed.lastEval = some (target, upper, lower) ∧ t.feed.count = 0 ∧ t.feed.mass = 0) ∧
      (full = false → exec .windowEnd s = .next s ∧ t.feed.setpoint = s.feed.setpoint ∧
        t.feed.staged = s.feed.staged ∧ t.feed.lastEval = s.feed.lastEval ∧
        (s.cycle.state ≠ .paused → t.feed.mode ≠ .shut → t.feed.count = s.feed.count + 1 ∧ t.feed.mass = mass)) ∧
      t.feed.holdoff = (if surges = true then c.surgeHold else s.feed.holdoff - 1) ∧
      (s.scale.pendingClose = none → t.feed.surge = (s.feed.surge || surges)) ∧
      (s.cycle.state ≠ .paused →
        (met c.spillKg → (t.feed.acc : Int) = a ∧ t.feed.mode = .shut ∧
          (s.cycle.state = .pouring → t.cycle.state = .settling ∧ t.cycle.settleOutcome = some .done ∧
            t.cycle.settleMs = some 0)) ∧
        (¬ met c.spillKg → s.feed.mode = .regulate → met c.dribbleKg →
          (t.feed.acc : Int) = clamp c.dribbleIx a ∧ t.feed.mode ≠ .regulate ∧
          (t.cycle.state = .pouring → s.scale.pendingClose = none → t.feed.mode = .dribble)) ∧
        (¬ met c.spillKg → (s.feed.mode = .dribble ∨ ¬ met c.dribbleKg) →
          (t.feed.acc : Int) = a ∧
          (t.cycle.state = .pouring → s.scale.pendingClose = none → t.feed.mode = s.feed.mode))) ∧
      setupKept s t ∧ t.plan = s.plan

/-- R18: at the 40th interval of a calibration, and at an interval without a pulse, the calibration ends with its
result; within the zero limit the candidate becomes the working zero. The interval end goes on as any other. R17: the
interval still running at the acceptance does not count, whatever its pulses: its end leaves sum, count and zero as they
are, and the next interval counts. That CALIBRATION COMPLETE is the whole interval end is the model's reading (log 6). -/
def Obligations.CalibrationEnds : Prop :=
  ∀ (s : State), s.running = true → s.scale.calRunning = true →
   (s.scale.calSkip = true →
      exec .calibrationComplete s = .next s ∧
      ∃ t, exec .intervalEnd s = .next t ∧ t.scale.calRunning = true ∧ t.scale.calSkip = false ∧
        t.scale.calSum = s.scale.calSum ∧ t.scale.calCount = s.scale.calCount ∧
        t.scale.workingZero = s.scale.workingZero ∧ t.scale.lastZero = s.scale.lastZero) ∧
   (s.scale.calSkip = false →
    (s.scale.pulses ≠ 0 → 39 ≤ s.scale.calCount →
      ∃ t, exec .calibrationComplete s = .next t ∧ exec .intervalEnd s = .next t ∧ t.scale.calRunning = false ∧
        hasFlag .zeroDone t ∧ setupKept s t ∧ t.plan = s.plan ∧
        (let z := (s.scale.calSum + s.scale.load + 20) / 40
         ((z - (scaleCfg s).zero ≤ (scaleCfg s).zeroLimit ∧ (scaleCfg s).zero - z ≤ (scaleCfg s).zeroLimit) →
           t.scale.lastZero = .ok ∧ t.scale.workingZero = some z) ∧
         (((scaleCfg s).zeroLimit < z - (scaleCfg s).zero ∨ (scaleCfg s).zeroLimit < (scaleCfg s).zero - z) →
           t.scale.lastZero = .range ∧ t.scale.workingZero = s.scale.workingZero))) ∧
    (s.scale.pulses = 0 →
      ∃ t, exec .intervalEnd s = .next t ∧ t.scale.calRunning = false ∧ t.scale.lastZero = .noBelt ∧
        t.scale.workingZero = s.scale.workingZero ∧ hasFlag .zeroDone t) ∧
    (s.scale.pulses ≠ 0 → s.scale.calCount < 39 →
      ∃ t, exec .intervalEnd s = .next t ∧ t.scale.calRunning = true ∧
        t.scale.calSum = s.scale.calSum + s.scale.load ∧ t.scale.calCount = s.scale.calCount + 1 ∧
        t.scale.workingZero = s.scale.workingZero))

/-- R13, R179: the pending opening takes effect at the interval end, after crediting to stray. R24, R164: the pour record
is cleared, its flags then following the causes that stand, and in POSITIONING the cycle enters the pour with the regulate
request of its share, or PAUSED without one; that it does so under a spout no longer LOWERED too is the model's choice
(log 61). That POUR OPEN is the whole interval end is the model's reading (log 6); the order inside the interval end is
log 7's. -/
def Obligations.PourOpens : Prop :=
  ∀ (s : State), s.running = true → s.scale.pendingOpen = true → s.scale.pourOpen = false →
    ∃ t, exec .pourOpen s = .next t ∧ exec .intervalEnd s = .next t ∧
      t.scale.pourOpen = true ∧ t.scale.pendingOpen = false ∧ t.scale.openGrams = 0 ∧ t.scale.quality = .clear ∧
      t.scale.stray = min (2 ^ 48 - 1) (s.scale.stray + intervalGrams s) ∧ t.scale.pendingClose = s.scale.pendingClose ∧
      t.bills.openedAt = some s.seconds ∧ t.bills.stored = s.bills.stored ∧ t.feed.surge = false ∧
      t.cycle.dustPaused = nearTripStands s ∧ t.cycle.trimPaused = s.claim.trim ∧
      (t.cycle.lastHalt = none ∨ t.cycle.lastHalt = some .beltStall ∧ t.cycle.state = .halted) ∧
      (s.cycle.state = .positioning → s.feed.mode = .shut → entersPour 0 s t) ∧
      (s.cycle.state ≠ .positioning → s.feed.mode = .shut → t.cycle.state = s.cycle.state ∧ t.feed.mode = .shut ∧
        t.cycle.lastHalt = none) ∧
      setupKept s t ∧ t.plan = s.plan

/-- R14, R180, R181: the pending closing takes effect at the interval end: the pour's grams move to the closed-pour
total and one bill, with the next sequence number, is stored at the log's tail. R186: a bill of the loaded plan joins its
tallies. R128, R134, R135, R166: under a HELD poured claim the TRIM cause clears, the last TALLY is handed over, and an end
request kept or made now completes: the claim is CLOSING and its CLOSE carries the settled kg of the own board plus the
final kg, DONE when a settle for DONE reaches the target, RELEASED otherwise; without one the final kg is kept. R16, R33,
R164, R181: the bill's quality flags are the pour's with those of the interval that ends, its SURGE mark the regulator's, a
surge of that interval among them; its DUST_PAUSED and TRIM_PAUSED marks are the pour record's, a TRIM cause that this interval
end sets among them; its last halt cause is the record's, or a BELT_STALL that arises at this interval end. That POUR CLOSE is the whole interval end is the model's reading (log 6); the order inside the interval end is log 7's. -/
def Obligations.PourCloses : Prop :=
  ∀ (s : State) (o : PourOutcome) (id : BillIdentity), s.running = true → s.scale.pourOpen = true →
    s.scale.pendingClose = some o → s.bills.identity = some id →
      ∃ t b, exec .pourClose s = .next t ∧ exec .intervalEnd s = .next t ∧
        (let net := min (2 ^ 40 - 1) (s.scale.openGrams + intervalGrams s)
         t.scale.pourOpen = false ∧ t.scale.openGrams = 0 ∧ t.scale.pendingClose = none ∧
         t.scale.closed = min (2 ^ 48 - 1) (s.scale.closed + net) ∧ t.scale.stray = s.scale.stray ∧
         t.feed.share = none ∧ t.feed.mode = .shut ∧
         t.bills.stored = s.bills.stored ++ [b] ∧ b.number = s.bills.seq ∧ b.ident = id ∧ b.netGrams = net ∧
         b.finalKg = (net + 500) / 1000 ∧ b.outcome = o ∧ b.openedAt = s.bills.openedAt.getD 0 ∧
         b.closedAt = s.seconds ∧ t.bills.seq = (if 65535 ≤ s.bills.seq then 1 else s.bills.seq + 1) ∧
         t.bills.reserved = false ∧ t.bills.identity = none ∧ hasFlag .pourClosed t ∧ setupKept s t ∧ t.plan = s.plan ∧
         (b.quality.overrange = true ↔ s.scale.quality.overrange = true ∨ s.scale.overrange = true) ∧
         (b.quality.underzero = true ↔ s.scale.quality.underzero = true ∨
           s.scale.load + (scaleCfg s).zeroTol < workingZero s) ∧
         (b.quality.pulseSat = true ↔ s.scale.quality.pulseSat = true ∨ s.scale.pulseSat = true) ∧
         (b.surge = true ↔ s.feed.surge = true ∨
           ∃ c, s.cfg.feed = some c ∧ s.feed.mode ≠ .shut ∧ c.surgeGrams < intervalGrams s ∧ s.feed.holdoff = 0) ∧
         ((nearTripStands s = true → s.cycle.dustPaused = true) → b.dustPaused = s.cycle.dustPaused) ∧
         ((s.claim.trim = true → s.cycle.trimPaused = true) →
           (s.claim.state ≠ .held → b.trimPaused = s.cycle.trimPaused) ∧
           ∀ r x h, s.claim.state = .held → s.claim.own = some r → findHold s r.hold = some x →
             s.plan.header = some h → ∃ mLive, t.claim.mLive = some mLive ∧
               (b.trimPaused = true ↔ s.cycle.trimPaused = true ∨
                 s.claim.trim = false ∧ h.trimLimit < mLive.natAbs ∧ x.lever ≠ 0 ∧ mLive.sign = x.lever.sign)) ∧
         (b.lastHalt = s.cycle.lastHalt ∨ b.lastHalt = some .beltStall) ∧
         (s.scale.beltMoving = true → b.lastHalt = s.cycle.lastHalt) ∧
         (∀ h, s.plan.header = some h → h.number = id.plan →
           t.bills.entries = min 65535 (s.bills.entries + 1) ∧
           t.bills.totals = s.bills.totals.set (id.hold - 1)
             (min 4294967295 (s.bills.totals.getD (id.hold - 1) 0 + (net + 500) / 1000))) ∧
         ((∀ h, s.plan.header = some h → h.number ≠ id.plan) →
           t.bills.entries = s.bills.entries ∧ t.bills.totals = s.bills.totals) ∧
         (∀ r u, s.claim.state = .held → s.claim.own = some r → r.poured = true → findTranche s r.tranche = some u →
           let kg := (net + 500) / 1000
           let ends (out : CloseOutcome) : Prop :=
             let f : Frame := .close r.plan r.tranche r.seq out s.station (min 4294967295 (u.settled + kg))
             t.claim.state = .closing ∧
             (∃ c, t.claim.own = some c ∧ c.closeFrame = some f ∧ c.endRequest = none ∧ c.closedKg = some kg) ∧
             (s.qli.clash = false → s.qli.queue.length ≤ 3 → isQueued f t)
           t.claim.trim = false ∧
           (s.qli.clash = false → s.qli.queue.length ≤ 3 →
             isQueued (.tally r.plan r.tranche r.seq (net / 1000)) t) ∧
           (∀ e, r.endRequest = some e → ends e) ∧
           (r.endRequest = none → o = .done → u.target ≤ u.settled + kg → ends .done) ∧
           (r.endRequest = none → o = .done → u.settled + kg < u.target → ends .released) ∧
           (r.endRequest = none → o = .withdrawn → ends .released) ∧
           (r.endRequest = none → (o = .yielded ∨ o = .takenOver ∨ o = .hatchLost) →
             t.claim.state = .held ∧ t.claim.own = some { r with closedKg := some kg })))

/-- R17, R21: ZERO SCALE is accepted only at rest without a calibration; READ SNAPSHOT returns the record held, in the 34
bytes of section 11.8, and is refused before the first one. Neither changes anything else. -/
def Obligations.ScaleCommands : Prop :=
  ∀ (rest : List Byte) (s : State), frames [] rest → s.running = true →
    ((s.cycle.state = .idle ∧ s.cycle.auto = false ∧ s.scale.pourOpen = false ∧ s.scale.pendingOpen = false ∧
        s.scale.pendingClose = none ∧ s.scale.calRunning = false) →
      exec (.zeroScale rest) s = .next (answered 7 rest (done []) { s with scale := { s.scale with
        calRunning := true, calSkip := true, calSum := 0, calCount := 0 } })) ∧
    ((s.cycle.state ≠ .idle ∨ s.cycle.auto = true ∨ s.scale.pourOpen = true ∨ s.scale.pendingOpen = true ∨
        s.scale.pendingClose ≠ none ∨ s.scale.calRunning = true) →
      exec (.zeroScale rest) s = .next (answered 7 rest (refuse .state) s)) ∧
    (∀ r, s.scale.snapshot = some r →
      exec (.readSnapshot rest) s = .next (answered 8 rest (done (snapshotBytes r)) s) ∧
      (snapshotBytes r).length = 34 ∧
      let bit (b : Bool) (n : Nat) : Nat := if b = true then n else 0
      let mode : Byte := match r.mode with
        | .shut => 0
        | .regulate => 1
        | .dribble => 2
      let exposure : Byte := match r.exposure with
        | .clear => 0
        | .warn => 1
        | .high => 2
        | .nearTrip => 3
        | .trip => 4
      snapshotBytes r = le 2 r.load ++ le 1 r.pulses ++ le 4 r.grams ++ le 2 r.fine ++ le 5 r.openGrams ++
        le 6 r.stray ++ le 6 r.total ++
        [BitVec.ofNat 8 (bit r.flags.overrange 1 + bit r.flags.underzero 2 + bit r.flags.pulseSat 4 +
          bit r.saturated 8)] ++
        le 2 r.acc ++ le 1 r.gate ++
        [mode] ++ [exposure] ++ le 2 r.pos) ∧
    (s.scale.snapshot = none → exec (.readSnapshot rest) s = .next (answered 8 rest (refuse .notRunning) s))

/-- R2, R3, R4, R47 to R51: the reading goes to the input's owner, its request leaves the list, and the first request
still pending is granted; a head keeps the last four readings, their mean, its latch, level and fault by its own reading alone,
with DUST_TRIP and HEAD_FAULT told. R54: a changed station level or trip count is handed over in a DUST frame. R52, R55, R56, R57,
R168: after a head's reading the exposure is that of its inputs, and a change is told; a latch withdraws a queued pending
claim. That nothing happens without a conversion under way is the model's reading (log 4). -/
def Obligations.ConversionsDelivered : Prop :=
  ∀ (level : Int) (s : State),
    (s.conv.busy = some .load →
      exec (.conversionEnd level) s = .next { s with
        conv := { requests := s.conv.requests.filter (· != .load),
                  busy := (s.conv.requests.filter (· != .load)).head? },
        scale := { s.scale with
          load := min 4095 level.toNat, overrange := s.scale.overrange || decide (4095 ≤ level) } }) ∧
    (s.conv.busy = none → exec (.conversionEnd level) s = .next s) ∧
    (∀ (k : Fin 4) (c : DustCfg), s.conv.busy = some (.head k) → s.cfg.dust = some c → k.val < s.dust.heads.length →
      ∃ t, exec (.conversionEnd level) s = .next t ∧
        t.conv = { requests := s.conv.requests.filter (· != .head k),
                   busy := (s.conv.requests.filter (· != .head k)).head? } ∧
        sameReadings (headAt t k.val) (readHead c (min 4095 level.toNat) (headAt s k.val)) ∧
        readAsRuled c (min 4095 level.toNat) (headAt s k.val) (headAt t k.val) ∧
        ((headAt s k.val).fault = false → (headAt t k.val).fault = true → hasFlag .headFault t) ∧
        (∀ j, j ≠ k.val → sameReadings (headAt t j) (headAt s j)) ∧
        ((headAt s k.val).latch = false → (c.tripOn : Int) ≤ level → c.tripOn ≤ 4095 → hasFlag .dustTrip t) ∧
        ((stationLevel t ≠ stationLevel s ∨ tripCount t ≠ tripCount s) → s.qli.clash = false →
          s.qli.queue.length ≤ 4 → isQueued (dustFrame t) t) ∧
        (s.running = true → exposureTold s t ∧
          (headEnabled s k.val = true → (headAt t k.val).latch = true → t.dust.exposure = .trip ∧
            (s.dust.exposure ≠ .trip → s.claim.state = .pending → claimPlace s = .queued → s.cycle.state ≠ .halted →
              t.claim.state = .none ∧ hasFlag .claimLost t))) ∧
        setupKept s t ∧ t.scale = s.scale ∧ t.plan = s.plan)

/-- R5, R6: a change of the belt input from inactive to active after RUN is counted up to 255 and then sets PULSE_SAT, and
sets the belt-moving flag; before RUN, at a change to inactive, and at an active value the input already has, only the
stable value follows. At the belt stall time the flag falls; with the
gate open that halts the station with BELT_STALL (R168, R169). That an expiry is nothing while the timer stands still or
has not reached its time is the model's choice (logs 4, 5). -/
def Obligations.BeltPulsesAndStall : Prop :=
  ∀ (s : State),
    (s.running = true → s.pins.belt = false → s.scale.pulses < 255 →
      exec (.filteredBeltPulse true) s = .next { s with
        pins := { s.pins with belt := true },
        scale := { s.scale with pulses := s.scale.pulses + 1, beltMoving := true, beltMs := some 0 } }) ∧
    (s.running = true → s.pins.belt = false → s.scale.pulses = 255 →
      exec (.filteredBeltPulse true) s = .next { s with
        pins := { s.pins with belt := true },
        scale := { s.scale with pulseSat := true, beltMoving := true, beltMs := some 0 } }) ∧
    (∀ a, s.running = false ∨ a = false ∨ s.pins.belt = true →
      exec (.filteredBeltPulse a) s = .next { s with pins := { s.pins with belt := a } }) ∧
    ((s.scale.beltMs = none ∨ ∃ n, s.scale.beltMs = some n ∧ n < (scaleCfg s).beltStall) →
      exec .beltStallTimeout s = .next s) ∧
    (reached s.scale.beltMs (scaleCfg s).beltStall = true → gateCode s = 0 →
      exec .beltStallTimeout s = .next { s with scale := { s.scale with beltMoving := false, beltMs := none } }) ∧
    (reached s.scale.beltMs (scaleCfg s).beltStall = true → gateCode s ≠ 0 →
      ∃ t, exec .beltStallTimeout s = .next t ∧ t.scale = { s.scale with beltMoving := false, beltMs := none } ∧
        t.cycle.state = .halted ∧ t.cycle.haltCause = some .beltStall ∧ t.cycle.causes = [.beltStall] ∧
        t.feed.mode = .shut ∧ gateCode t = 0 ∧ hasFlag .halted t ∧ t.claim = s.claim ∧ t.plan = s.plan ∧
        setupKept s t)

/-! ### Feed -/

/-- R40: SET FEED stages the setpoint, brought into [F_min, F_max], and changes nothing else; DONE_CLAMPED says it was
brought in. -/
def Obligations.SetpointStaged : Prop :=
  ∀ (fs rest : List Byte) (c : FeedCfg) (s : State), frames fs rest → fs.length = 2 → s.running = true →
    s.cfg.feed = some c → c.fMin ≤ c.fMax →
      (number fs < c.fMin → exec (.setFeed rest) s = .next (answered 9 rest
        { status := .doneClamped, reason := .none, result := [] }
        { s with feed := { s.feed with staged := some c.fMin } })) ∧
      (c.fMin ≤ number fs → number fs ≤ c.fMax → exec (.setFeed rest) s = .next (answered 9 rest (done [])
        { s with feed := { s.feed with staged := some (number fs) } })) ∧
      (c.fMax < number fs → exec (.setFeed rest) s = .next (answered 9 rest
        { status := .doneClamped, reason := .none, result := [] }
        { s with feed := { s.feed with staged := some c.fMax } }))

/-- R39: the gate code is the table entry at A div 8192 under the mode and the permissive, and 0 otherwise. -/
def Obligations.GateCodeRule : Prop :=
  ∀ (s : State) (c : FeedCfg), s.cfg.feed = some c →
    ((s.feed.mode ≠ .shut ∧ s.cycle.state = .pouring ∧ s.spout.state = .lowered ∧ s.claim.state = .held ∧
        inWindow s = true ∧ permit s = true ∧
        (s.dust.exposure = .clear ∨ s.dust.exposure = .warn ∨ s.dust.exposure = .high)) →
      gateCode s = c.table.getD (s.feed.acc / 8192) 0) ∧
    (gateCode s ≠ 0 →
      (s.feed.mode = .regulate ∨ s.feed.mode = .dribble) ∧ s.cycle.state = .pouring ∧ s.spout.state = .lowered ∧
      s.claim.state = .held ∧ permit s = true ∧ s.dust.exposure ≠ .nearTrip ∧ s.dust.exposure ≠ .trip ∧
      s.travel.referenced = true ∧
      ∃ r h w, s.claim.own = some r ∧ findHold s r.hold = some h ∧ hatchWindow s h = some w ∧
        w.lo ≤ position s ∧ position s ≤ w.hi)

/-! ### Dust -/

/-- R50: the table of the average level, on a reading that does not trip, whatever the latch and the fault flag; a reading
that trips leaves the level. The rest of one reading's processing is by R48, R49 and R51: history and mean, the latch with
DUST_TRIP, fault flag and count with HEAD_FAULT, each flag raised at that change alone. A head's reading moves that head
alone. -/
def Obligations.AverageLevelTable : Prop :=
  ∀ (c : DustCfg) (r : Nat) (h : Head), c.warnOff < c.warnOn → c.warnOn ≤ c.highOff → c.highOff < c.highOn →
    (let avg := (average (readHead c r h)).getD 0
     let now := (readHead c r h).avgLevel
     (r < c.tripOn → h.avgLevel = .clear → c.highOn ≤ avg → now = .high) ∧
     (r < c.tripOn → h.avgLevel = .clear → c.warnOn ≤ avg → avg < c.highOn → now = .warn) ∧
     (r < c.tripOn → h.avgLevel = .clear → avg < c.warnOn → now = .clear) ∧
     (r < c.tripOn → h.avgLevel = .warn → c.highOn ≤ avg → now = .high) ∧
     (r < c.tripOn → h.avgLevel = .warn → avg < c.warnOff → now = .clear) ∧
     (r < c.tripOn → h.avgLevel = .warn → c.warnOff ≤ avg → avg < c.highOn → now = .warn) ∧
     (r < c.tripOn → h.avgLevel = .high → avg < c.warnOff → now = .clear) ∧
     (r < c.tripOn → h.avgLevel = .high → c.warnOff ≤ avg → avg < c.highOff → now = .warn) ∧
     (r < c.tripOn → h.avgLevel = .high → c.highOff ≤ avg → now = .high) ∧
     (c.tripOn ≤ r → now = h.avgLevel ∧ (readHead c r h).latch = true)) ∧
    readAsRuled c r h (readHead c r h) ∧
    (∀ (k j : Nat) (s : State), j ≠ k → headAt (processReading c k r s) j = headAt s j) ∧
    ∀ (k : Nat) (s : State),
      (k < s.dust.heads.length → headAt (processReading c k r s) k = readHead c r (headAt s k)) ∧
      (hasFlag .headFault (processReading c k r s) ↔
        hasFlag .headFault s ∨ (headAt s k).fault = false ∧ (readHead c r (headAt s k)).fault = true) ∧
      (hasFlag .dustTrip (processReading c k r s) ↔
        hasFlag .dustTrip s ∨ (headAt s k).latch = false ∧ c.tripOn ≤ r)

/-- R53, R59: ACK DUST clears the latch of each enabled head whose average is below warn_off, whose average level is then
CLEAR, leaves every other head as it is, silences the horn unless the exposure rises with it, and answers the trip count that
remains. R54: a changed station level or trip count is handed over in a DUST frame, the repeat count back at 0 and, at a
change of level, the clear repeats set. R55, R56: the exposure is formed again, a change told. -/
def Obligations.DustAcknowledged : Prop :=
  ∀ (rest : List Byte) (c : DustCfg) (s : State), frames [] rest → s.running = true → s.cfg.dust = some c →
    ∃ t, exec (.ackDust rest) s = .next t ∧ replied 10 rest (done [BitVec.ofNat 8 (tripCount t)]) s t ∧
      (∀ k a, headEnabled s k = true → average (headAt s k) = some a →
        ((headAt t k).latch = true ↔ (headAt s k).latch = true ∧ c.warnOff ≤ a)) ∧
      (∀ k a, headEnabled s k = true → (headAt s k).latch = true → average (headAt s k) = some a → a < c.warnOff →
        (c.warnOff < c.warnOn → c.warnOn ≤ c.highOff → c.highOff < c.highOn → (headAt t k).avgLevel = .clear) ∧
        (headAt t k).fault = (headAt s k).fault ∧ (headAt t k).faultCount = (headAt s k).faultCount) ∧
      (∀ k, (headEnabled s k = false ∨ (headAt s k).latch = false ∨ ∀ a, average (headAt s k) = some a → c.warnOff ≤ a) →
        sameReadings (headAt t k) (headAt s k)) ∧
      ((stationLevel t ≠ stationLevel s ∨ tripCount t ≠ tripCount s) →
        t.dust.repeatCount = 0 ∧
        t.dust.clearRepeats = (if stationLevel t = stationLevel s then s.dust.clearRepeats
          else if stationLevel t = .clear then 2 else 0) ∧
        (s.qli.clash = false → s.qli.queue.length ≤ 4 → isQueued (dustFrame t) t)) ∧
      (∀ k, (headAt t k).history = (headAt s k).history) ∧
      (t.dust.exposure.code ≤ s.dust.exposure.code → t.dust.silenced = true) ∧ exposureTold s t ∧
      setupKept s t ∧ t.scale = s.scale ∧ t.plan = s.plan ∧ t.pins = s.pins

/-- R45, R46: the wake window's end requests one sample of each enabled head; the sleep period's end wakes the heads;
the warm-up's end starts continuous sampling with the next interval's requests. R46, R47: where a reading or a change of cycle
state makes the continuous condition begin, SLEEPING, WAKING and DRAINING pass to WARMING with every enabled head on; where it
makes the condition end, WARMING and CONTINUOUS pass to DRAINING, in which a head goes off once its request is answered, and
to SLEEPING once all are off; the last reading of a sample brings WAKING to SLEEPING with every head off; a reading that changes
nothing of the condition leaves WAKING, WARMING and CONTINUOUS as they are. The changes of cycle state are a claim from IDLE and
a raised limit that ends WITHDRAWING. That an expiry is nothing in another
sampling state or before its timer has reached its time, and that WARM UP COMPLETE is the whole interval end, are the
model's choices (logs 4, 5, 6). -/
def Obligations.SamplingTimers : Prop :=
  ∀ (s : State),
    (s.dust.sampling = .waking → reached s.dust.wakeMs (wakeWindow s) = true → (∃ k : Fin 4, headEnabled s k.val = true) →
      ∃ conv, exec .wakeWindowEnd s = .next { s with conv := conv, dust := { s.dust with wakeMs := none } } ∧
        (∀ k : Fin 4, headEnabled s k.val = true → AdcInput.head k ∈ conv.requests) ∧
        (∀ i ∈ s.conv.requests, i ∈ conv.requests)) ∧
    (s.dust.sampling = .waking → reached s.dust.wakeMs (wakeWindow s) = true → (∀ k : Fin 4, headEnabled s k.val = false) →
      continuousCondition s = false →
      ∃ t, exec .wakeWindowEnd s = .next t ∧ t.dust.sampling = .sleeping ∧ t.dust.sleepMs = some 0) ∧
    ((s.dust.sampling ≠ .waking ∨ reached s.dust.wakeMs (wakeWindow s) = false) →
      exec .wakeWindowEnd s = .next s) ∧
    ((s.dust.sampling ≠ .sleeping ∨ reached s.dust.sleepMs (sleepPeriod s) = false) →
      exec .sleepPeriodEnd s = .next s) ∧
    (s.dust.sampling = .sleeping → reached s.dust.sleepMs (sleepPeriod s) = true →
      ∃ heads, exec .sleepPeriodEnd s = .next { s with dust := { s.dust with
          sampling := .waking, wakeMs := some 0, sleepMs := none, warmMs := none, heads := heads } } ∧
        heads.length = s.dust.heads.length ∧
        ∀ k h, s.dust.heads[k]? = some h → ∃ g, heads[k]? = some g ∧ sameReadings g h ∧
          g.power = (h.power || headEnabled s k)) ∧
    (s.running = true → s.dust.sampling = .warming → reached s.dust.warmMs (wakeWindow s) = true →
      (s.scale.pourOpen = false ∨ 1 ≤ s.dust.exposure.code ∨
        (s.cycle.state ≠ .withdrawing ∧ s.cycle.state ≠ .claiming)) →
      ∃ t, exec .warmUpComplete s = .next t ∧ exec .intervalEnd s = .next t ∧ t.dust.sampling = .continuous ∧
        t.dust.warmMs = none ∧ AdcInput.load ∈ t.conv.requests ∧
        ∀ k : Fin 4, headEnabled s k.val = true → AdcInput.head k ∈ t.conv.requests) ∧
    (∀ (level : Int) (k : Fin 4), s.running = true → s.cycle.state = .idle → s.dust.heads.length = 4 →
      s.cfg.dust ≠ none → s.conv.busy = some (.head k) →
      ∃ t, exec (.conversionEnd level) s = .next t ∧
        (s.dust.exposure = .clear → t.dust.exposure ≠ .clear → conditionBegun s t) ∧
        (s.dust.exposure ≠ .clear → t.dust.exposure = .clear →
          (s.dust.sampling = .warming ∨ s.dust.sampling = .continuous) → drains s t) ∧
        (s.dust.exposure = .clear → t.dust.exposure = .clear →
          (s.dust.sampling = .draining → s.dust.wakeMs = none → s.dust.sleepMs = none → s.dust.warmMs = none →
            drains s t) ∧
          (s.dust.sampling = .waking → s.dust.wakeMs = none →
            (∀ j : Fin 4, headEnabled s j.val = true → AdcInput.head j ∉ t.conv.requests) →
            t.dust.sampling = .sleeping ∧ t.dust.sleepMs = some 0 ∧ t.dust.wakeMs = none ∧ t.dust.warmMs = none ∧
            ∀ j : Fin 4, (headAt t j.val).power = false) ∧
          (s.dust.sampling = .waking →
            (s.dust.wakeMs ≠ none ∨ ∃ j : Fin 4, headEnabled s j.val = true ∧ AdcInput.head j ∈ t.conv.requests) →
            t.dust.sampling = .waking ∧ t.dust.wakeMs = s.dust.wakeMs ∧
            ∀ j : Fin 4, (headAt t j.val).power = (headAt s j.val).power)) ∧
        (s.dust.exposure ≠ .clear → t.dust.exposure ≠ .clear →
          (s.dust.sampling = .warming ∨ s.dust.sampling = .continuous) →
          t.dust.sampling = s.dust.sampling ∧ t.dust.warmMs = s.dust.warmMs ∧
          ∀ j : Fin 4, (headAt t j.val).power = (headAt s j.val).power)) ∧
    (s.running = true → s.cycle.state = .idle → s.dust.exposure = .clear → s.dust.heads.length = 4 →
      ∃ t, exec .beaconTick s = .next t ∧ (t.cycle.state ≠ .idle → conditionBegun s t)) ∧
    (s.running = true → s.cycle.state = .withdrawing → s.spout.state = .raising → s.pins.raised = false →
      pourBegun s = false → s.claim.state = .none → s.dust.exposure = .clear → s.dust.heads.length = 4 →
      (s.dust.sampling = .warming ∨ s.dust.sampling = .continuous) →
      ∃ t, exec (.limitSwitchChange .raised true) s = .next t ∧ t.cycle.state = .idle ∧ drains s t ∧ t.conv = s.conv)

/-- R58, R192, R135, R54: a pattern step advances both positions and goes round at the pattern's end; a second tick
advances the seconds, hands over a TALLY of an open held pour, and every second one a repeat of the DUST frame when due.
R58, R59: in every state after RUN the lamp output is on exactly while the step at the lamp position of the exposure's lamp
pattern is on, and the horn output exactly while the step at the horn position is on and the horn is not silenced; before
RUN both are off. R52, R54: a DUST frame, here and wherever a statement names `dustFrame`, carries the station level, the trip
count, the referenced flag and the position as they stand. That DUST REPEAT is the whole second tick is the model's reading (log 8), and so is a pattern step before
RUN, which changes nothing (log 4). -/
def Obligations.PatternAndSecondTicks : Prop :=
  ∀ (s : State),
    (s.running = false → hornOn s = false ∧ lampOn s = false) ∧
    (∀ c, s.running = true → s.cfg.patterns = some c →
      let e : Nat := match s.dust.exposure with
        | .clear => 0
        | .warn => 1
        | .high => 2
        | .nearTrip => 3
        | .trip => 4
      let stepOn (patterns : List Pattern) (pos : Nat) : Prop := ∃ p, patterns[e]? = some p ∧ p.steps[pos]? = some true
      (hornOn s = true ↔ stepOn c.horn s.dust.hornPos ∧ s.dust.silenced = false) ∧
      (lampOn s = true ↔ stepOn c.lamp s.dust.lampPos) ∧
      (∀ p, c.horn[e]? = some p → patternLength c.horn s.dust.exposure = p.len) ∧
      (∀ p, c.lamp[e]? = some p → patternLength c.lamp s.dust.exposure = p.len)) ∧
    (∀ c, s.running = true → s.cfg.patterns = some c →
      exec .patternStep s = .next { s with dust := { s.dust with
        hornPos := if s.dust.hornPos + 1 < patternLength c.horn s.dust.exposure then s.dust.hornPos + 1 else 0
        lampPos := if s.dust.lampPos + 1 < patternLength c.lamp s.dust.exposure then s.dust.lampPos + 1 else 0 } }) ∧
    (s.running = false → exec .patternStep s = .next s) ∧
    (s.running = true →
      ∃ t, exec .secondTick s = .next t ∧ t.seconds = (s.seconds + 1) % 4294967296 ∧
        (∀ r, s.claim.state = .held → s.claim.own = some r → s.scale.pourOpen = true → s.qli.clash = false →
          s.qli.queue.length < 5 →
          isQueued (.tally r.plan r.tranche r.seq (s.scale.openGrams / 1000)) t) ∧
        ((s.claim.state ≠ .held ∨ s.scale.pourOpen = false) → (s.dust.repeatCount = 0 ∨ repeatDue s = false) →
          t = { s with seconds := (s.seconds + 1) % 4294967296,
                       dust := { s.dust with repeatCount := s.dust.repeatCount + 1 } }) ∧
        setupKept s t ∧ t.scale = s.scale ∧ t.plan = s.plan ∧ t.peers = s.peers) ∧
    (s.running = true → 1 ≤ s.dust.repeatCount → repeatDue s = true →
      ∃ t, exec .dustRepeat s = .next t ∧ exec .secondTick s = .next t ∧ t.dust.repeatCount = 0 ∧
        t.dust.clearRepeats = (if stationLevel s = .clear then s.dust.clearRepeats - 1 else s.dust.clearRepeats) ∧
        (s.qli.clash = false → s.qli.queue.length < 5 → isQueued (dustFrame s) t)) ∧
    isDustFrame (dustFrame s) s

/-! ### The quay line -/

/-- R69, R73: a receive error, found by a receiver in its place, is counted in the total and in the window; the eighth of a
window sets DEGRADED, raises LINE_DEGRADED and withdraws a pending claim; a receiver that hunts or waits for the idle gap
finds none; the end of a window of 1,000 ms starts the count again, and one without an error clears the flag, at which a
WAITING move repeats its reservation check (R145). The
receiver's states are the model's coarse ones (log 29); that a window's end is nothing before its time is the model's
choice (logs 3, 5). -/
def Obligations.LineWindowAndErrors : Prop :=
  ∀ (e : RxError) (s : State),
    ((s.qli.rx = .hunting ∨ s.qli.rx = .awaitingGap) → exec (.receiveError e) s = .next s) ∧
    ((s.qli.rx = .lineIdle ∨ s.qli.rx = .inFrame) → (s.qli.degraded = true ∨ s.qli.winErrors + 1 < 8) →
      exec (.receiveError e) s = .next { s with qli := { s.qli with
        rx := (match e with
          | .lengthOver16 => .hunting
          | .badCheck => .awaitingGap),
        rxErrors := min 65535 (s.qli.rxErrors + 1), winErrors := s.qli.winErrors + 1 } }) ∧
    ((s.qli.rx = .lineIdle ∨ s.qli.rx = .inFrame) → s.qli.degraded = false → 7 ≤ s.qli.winErrors →
      ∃ t, exec (.receiveError e) s = .next t ∧ t.qli.degraded = true ∧ hasFlag .lineDegraded t ∧
        t.qli.rxErrors = min 65535 (s.qli.rxErrors + 1) ∧ t.qli.winErrors = s.qli.winErrors + 1 ∧
        (s.claim.state = .pending → claimPlace s = .queued → t.claim.state = .none ∧ hasFlag .claimLost t) ∧
        (s.claim.state ≠ .pending → t.claim = s.claim ∧ t.cycle = s.cycle) ∧
        setupKept s t ∧ t.scale = s.scale ∧ t.plan = s.plan ∧ t.peers = s.peers) ∧
    (s.qli.lineMs < 1000 → exec .lineWindowEnd s = .next s) ∧
    (1000 ≤ s.qli.lineMs →
      ∃ t, exec .lineWindowEnd s = .next t ∧ t.qli.winErrors = 0 ∧ t.qli.lineMs = 0 ∧
        t.qli.degraded = (s.qli.degraded && decide (s.qli.winErrors ≠ 0)) ∧
        (s.qli.degraded = t.qli.degraded ∨ s.travel.state ≠ .waiting →
          t = { s with qli := { s.qli with degraded := t.qli.degraded, winErrors := 0, lineMs := 0 } }) ∧
        (∀ g, s.qli.degraded = true → s.qli.winErrors = 0 → s.travel.state = .waiting → s.travel.target = some g →
          rechecked g 5 s t ∧ t.travel.count = s.travel.count ∧ t.claim = s.claim ∧ t.cycle = s.cycle) ∧
        setupKept s t ∧ t.scale = s.scale ∧ t.plan = s.plan ∧ t.peers = s.peers)

/-- R65, R66, R67, R77: at an idle gap the head of the queue goes onto the line when the QLI may send; a frame that
loses arbitration or is abandoned stays queued, an abandonment counted in TX_ERR; a CLAIM marked withdrawn leaves the
queue and its claim ends with CLAIM_LOST (R126), which is the last condition of a WITHDRAWING cycle without a pour
(R167). That nothing happens without a frame on the line, the receiver's coarse
state, and that an idle gap completes in every one of them, are the model's (logs 4, 29, 57). -/
def Obligations.LineSending : Prop :=
  ∀ (s : State),
    (∀ e rest, s.running = true → s.qli.clash = false → (∀ x ∈ s.qli.queue, x.onLine = none) →
      s.qli.queue = e :: rest →
      exec .idleGap s = .next { s with qli := { s.qli with
        rx := .inFrame, queue := { e with onLine := some e.frame } :: rest } }) ∧
    ((∀ x ∈ s.qli.queue, x.onLine = none) → (s.running = false ∨ s.qli.clash = true ∨ s.qli.queue = []) →
      exec .idleGap s = .next { s with qli := { s.qli with rx := .lineIdle } }) ∧
    ((∀ x ∈ s.qli.queue, x.onLine = none) →
      exec .arbitrationLost s = .next s ∧ exec .frameAbandoned s = .next s) ∧
    ((∃ x ∈ s.qli.queue, x.onLine ≠ none) → (∀ x ∈ s.qli.queue, x.withdrawn = false) →
      exec .arbitrationLost s = .next { s with qli := { s.qli with
        rx := .inFrame, queue := s.qli.queue.map (fun x => { x with onLine := none, renewed := false }) } } ∧
      exec .frameAbandoned s = .next { s with qli := { s.qli with
        rx := .inFrame, txErr := min 65535 (s.qli.txErr + 1),
        queue := s.qli.queue.map (fun x => { x with onLine := none, renewed := false }) } }) ∧
    ((∃ x ∈ s.qli.queue, x.onLine ≠ none ∧ x.withdrawn = true) → s.claim.state = .pending →
      ∃ t u, exec .arbitrationLost s = .next t ∧ exec .frameAbandoned s = .next u ∧
        t.claim.state = .none ∧ t.claim.own = none ∧ hasFlag .claimLost t ∧
        u.claim = t.claim ∧ hasFlag .claimLost u ∧ u.qli.txErr = min 65535 (s.qli.txErr + 1) ∧
        (s.cycle.state = .claiming → t.cycle.state = .idle ∧ u.cycle.state = .idle) ∧
        (s.cycle.state = .withdrawing → s.spout.state = .raised → s.scale.pourOpen = false →
          s.scale.pendingOpen = false → t.cycle.state = .idle ∧ u.cycle.state = .idle ∧ t.cycle.ending = false) ∧
        t.qli.queue = (s.qli.queue.filter (fun x => !(x.onLine.isSome && x.withdrawn))).map
          (fun x => { x with onLine := none, renewed := false }))

/-- R69, R70, R72: a receiver that hunts or waits for the idle gap hears no frame. By one in its place a frame over 16 bytes
or with a bad check is a receive error; one that fails an acceptance
check is counted foreign and reaches no owner; an accepted one with the own number is a station clash: the clash flag,
the event, after RUN the halt, and the queue emptied. The receiver's coarse state and the order at a clash are the
model's (logs 29, 30). -/
def Obligations.FramesJudged : Prop :=
  ∀ (f : RxFrame) (s : State), f.payload.length ≤ 31 →
    (16 < f.payload.length → exec (.frameHeard (.other f)) s = exec (.receiveError .lengthOver16) s) ∧
    (f.payload.length ≤ 16 → f.check ≠ frameCheck f.key f.payload →
      exec (.frameHeard (.other f)) s = exec (.receiveError .badCheck) s) ∧
    ((s.qli.rx = .hunting ∨ s.qli.rx = .awaitingGap) → exec (.frameHeard (.other f)) s = .next s) ∧
    ((s.qli.rx = .lineIdle ∨ s.qli.rx = .inFrame) →
      f.payload.length ≤ 16 → f.check = frameCheck f.key f.payload →
      (Frame.ofPayload (f.key.toNat / 8) f.payload = none ∨
        ∃ c, s.cfg.rail = some c ∧ c.n ≤ f.key.toNat % 8) →
      exec (.frameHeard (.other f)) s = .next { s with qli := { s.qli with
        rx := .awaitingGap, foreign := min 65535 (s.qli.foreign + 1) } }) ∧
    (∀ g, (s.qli.rx = .lineIdle ∨ s.qli.rx = .inFrame) → f.payload.length ≤ 16 → f.check = frameCheck f.key f.payload →
      Frame.ofPayload (f.key.toNat / 8) f.payload = some g → (∀ c, s.cfg.rail = some c → f.key.toNat % 8 < c.n) →
      f.key.toNat % 8 = s.station →
      ∃ t, exec (.frameHeard (.other f)) s = .next t ∧ t.qli.clash = true ∧ t.qli.queue = [] ∧
        hasFlag .stationClash t ∧ t.peers = s.peers ∧ t.plan = s.plan ∧ t.scale = s.scale ∧ setupKept s t ∧
        t.qli.txDrop = s.qli.txDrop ∧
        (s.running = true → t.cycle.state = .halted ∧ HaltCause.stationClash ∈ t.cycle.causes))

/-- R81 to R85, R71, R106: an accepted peer's frame makes its entry LIVE with age 0 and the fields it carries, PEER_BACK
for an entry that was SILENT or RETIRED; the other entries keep their reports, and the board merges the frame whole. R108
to R112: what the merges of CLOSE, NOTE, TALLY and BEACON make of the sealed plan's records; that a beacon with another
plan number or check, such as a reset peer's first, releases no claim is the model's choice between R106 and R111 (log 62).
R91, R94: every entry's order
fault and mismatch marks are computed again, each gain raising its event, and so does another mismatching identity;
agreement lost withdraws a queued pending claim (R125). R55, R56: after RUN the exposure is formed again, a change told.
The receiver's states are the model's coarse ones (log 29); that the marks are computed once, after the fields, is its
choice (log 52). -/
def Obligations.PeerFrameTaken : Prop :=
  ∀ (b : Nat) (g : Frame) (s : State), b < 8 → b ≠ s.station → s.peers.length = 8 →
    (s.qli.rx = .lineIdle ∨ s.qli.rx = .inFrame) → (∀ c, s.cfg.rail = some c → b < c.n) →
    Frame.ofPayload g.cls g.payload = some g →
      ∃ t, exec (.frameHeard (.other (g.wire b))) s = .next t ∧
        (let p := peer t b
         let q := peer s b
         p.presence = .live ∧ p.age = some 0 ∧
         ((q.presence = .silent ∨ q.presence = .retired) → hasFlag .peerBack t) ∧
         (∀ level trips ref pos, g = .dust level trips ref pos →
           p.dust = some level ∧ p.trips = trips ∧ p.referenced = ref ∧ p.pos = (if ref then some pos else none) ∧
           p.span = q.span ∧ p.cycle = q.cycle ∧ p.planId = q.planId ∧ p.claim = q.claim) ∧
         (∀ lo hi, g = .span lo hi →
           p.span = some { lo := lo, hi := hi } ∧ p.pos = q.pos ∧ p.referenced = q.referenced ∧ p.dust = q.dust ∧
           p.cycle = q.cycle ∧ p.planId = q.planId ∧ p.claim = q.claim) ∧
         (∀ st ref halted auto deg pos lo hi plan check k seq,
           g = .beacon st ref halted auto deg pos lo hi plan check k seq →
           p.cycle = some st ∧ p.referenced = ref ∧ p.halted = halted ∧ p.auto = auto ∧ p.degraded = deg ∧
           p.pos = (if ref then some pos else none) ∧ p.span = some { lo := lo, hi := hi } ∧
           p.planId = some (plan, check) ∧ p.claim = (if k = 0 then none else some (k, seq)) ∧
           p.dust = q.dust ∧ p.trips = q.trips)) ∧
        (∀ j, j ≠ b → sameReport (peer t j) (peer s j)) ∧
        (∀ j, j < 8 → j ≠ s.station →
          let p := peer t j
          let q := peer s j
          (p.orderFault = true ↔ s.travel.referenced = true ∧ (p.presence = .live ∨ p.presence = .silent) ∧
            ∃ x, p.pos = some x ∧ (if j < s.station then position s ≤ x else x ≤ position s)) ∧
          (p.mismatch = true ↔ p.presence = .live ∧
            ∃ id own, p.planId = some id ∧ ownPlanId s = some own ∧ id.1 ≠ 0 ∧ id ≠ own) ∧
          (q.orderFault = false → p.orderFault = true → hasFlag .orderFault t) ∧
          (p.mismatch = true → (q.mismatch = false ∨ p.planId ≠ q.planId) → hasFlag .planMismatch t)) ∧
        (agreed s = true → agreed t = false → s.claim.state = .pending → claimPlace s = .queued →
          t.claim.state = .none ∧ hasFlag .claimLost t) ∧
        (s.running = true → exposureTold s t) ∧
        t.plan = { s.plan with tranches := mergedTranches b false g s } ∧
        setupKept s t ∧ t.travel.count = s.travel.count ∧ t.bills.stored = s.bills.stored ∧
        ((s.plan.state = .none ∨ s.plan.state = .building) → t.plan = s.plan) ∧
        (∀ st ref halted auto deg pos lo hi plan check k q,
          g = .beacon st ref halted auto deg pos lo hi plan check k q → ownPlanId s ≠ some (plan, check) →
          t.plan = s.plan) ∧
        ∀ h, (s.plan.state = .learning ∨ s.plan.state = .ready) → s.plan.header = some h →
          mergedAsRuled b g h s t ∧
          (∀ st ref halted auto deg pos lo hi check k q,
            g = .beacon st ref halted auto deg pos lo hi h.number check k q →
            (ownPlanId s = some (h.number, check) →
              (∀ j v l, j ≠ k → findTranche s j = some v → v.phase = .claimed b l →
                findTranche t j = some (released v l)) ∧
              (∀ j v, j ≠ k → findTranche s j = some v → v.phase = .vacant ∨ v.phase = .done →
                findTranche t j = some v) ∧
              ∀ u r, findTranche s k = some u →
                r = (match u.phase with
                  | .claimed c l => if c = b ∧ u.seq ≠ q then released u l else u
                  | _ => u) →
                let lower : Prop := ∃ v ∈ s.plan.tranches, ∃ c l, v.hold = u.hold ∧ v.phase = .claimed c l ∧ c < b
                ((r.phase = .done ∨ claimant r = some b ∨ r.phase = .vacant ∧ q ≠ r.seq + 1) →
                  findTranche t k = some r) ∧
                (∀ c l, r.phase = .claimed c l → c ≠ b →
                  ((q < r.seq ∨ c < b) → findTranche t k = some r) ∧
                  (b < c → (q = r.seq ∨ q = r.seq + 1) →
                    findTranche t k = some { released r l with phase := .claimed b 0, seq := q }) ∧
                  (b < c → r.seq + 1 < q → findTranche t k = some (released r l))) ∧
                (r.phase = .vacant → q = r.seq + 1 → lower → findTranche t k = some r) ∧
                (r.phase = .vacant → q = r.seq + 1 → ¬ lower →
                  findTranche t k = some { r with phase := .claimed b 0, seq := q } ∧
                  ∀ j v c l, j ≠ k → findTranche s j = some v → v.hold = u.hold → v.phase = .claimed c l →
                    findTranche t j = some (released v l))))

/-- R107: a peer's CLAIM is accepted exactly when its hold is the tranche's, the phase is OPEN, the sequence is the next
one and no other station has a tranche of the hold CLAIMED; then the tranche is claimed by it with live 0 and its other
claims are released; otherwise the board is unchanged. R124: a merge of any peer's frame that leaves the pending claim no
longer acceptable withdraws it; one that does not leaves it. R113, R130, R173: a merge that takes the HELD claim from the
own board tells TAKEN_OVER for a CLOSE at its sequence on its behalf and YIELDED otherwise: the claim is NONE, its unpoured
slot released, the feed SHUT, the settle stopped, the pour asked to close with that outcome, the ending marker set and,
outside HALTED, the spout raised and the tower withdrawn; here the ids are distinct by the board law, and no move is wanted in
WITHDRAWING, which the drive law says. The receiver's states are the model's coarse ones (log 29). -/
def Obligations.ClaimFrameMerged : Prop :=
  (∀ (b k seq hold : Nat) (h : PlanHeader) (u : Tranche) (s : State), b < 8 → b ≠ s.station →
      (s.qli.rx = .lineIdle ∨ s.qli.rx = .inFrame) → (∀ c, s.cfg.rail = some c → b < c.n) →
      (s.plan.state = .learning ∨ s.plan.state = .ready) → s.plan.header = some h → findTranche s k = some u →
      1 ≤ k → k ≤ 24 → 1 ≤ hold → hold ≤ 12 → seq < 256 → h.number < 65536 →
        ∃ t, exec (.frameHeard (.other ((Frame.claim h.number k seq hold).wire b))) s = .next t ∧
          ((hold = u.hold ∧ u.phase = .vacant ∧ seq = u.seq + 1 ∧
              (∀ v ∈ s.plan.tranches, ∀ c live, v.hold = u.hold → v.phase = .claimed c live → c = b)) →
            (∃ v ∈ t.plan.tranches, v.id = k ∧ v.phase = .claimed b 0 ∧ v.seq = seq ∧ v.settled = u.settled) ∧
            (∀ v ∈ t.plan.tranches, claimant v = some b → v.id = k)) ∧
          ((hold ≠ u.hold ∨ u.phase ≠ .vacant ∨ seq ≠ u.seq + 1 ∨
              ∃ v ∈ s.plan.tranches, ∃ c live, v.hold = u.hold ∧ v.phase = .claimed c live ∧ c ≠ b) →
            t.plan = s.plan)) ∧
  ∀ (b : Nat) (g : Frame) (s : State), b < 8 → b ≠ s.station →
    (s.qli.rx = .lineIdle ∨ s.qli.rx = .inFrame) → (∀ c, s.cfg.rail = some c → b < c.n) →
    Frame.ofPayload g.cls g.payload = some g →
      ∃ t, exec (.frameHeard (.other (g.wire b))) s = .next t ∧
        (∀ r u, s.claim.state = .pending → s.claim.own = some r → findTranche t r.tranche = some u →
          let acceptable : Prop := u.phase = .vacant ∧ u.seq + 1 = r.seq ∧
            ∀ v ∈ t.plan.tranches, ∀ c l, v.hold = u.hold → v.phase = .claimed c l → c = s.station
          let quiet : Prop := t.dust.exposure = s.dust.exposure ∧ moveWanted s.travel.state = false
          (¬ acceptable → claimPlace s = .queued →
            t.claim.state = .none ∧ t.claim.own = none ∧ hasFlag .claimLost t ∧
            (∀ e ∈ t.qli.queue, e.frame.isClaim = true → e.onLine ≠ none) ∧
            (s.bills.identity = none → t.bills.reserved = false) ∧
            (quiet → s.cycle.state = .claiming → t.cycle.state = .idle)) ∧
          (¬ acceptable → claimPlace s = .onLine →
            t.claim.state = .pending ∧ t.claim.own = some { r with withdrawMark := true } ∧
            (quiet → t.cycle.state = s.cycle.state)) ∧
          (¬ acceptable → claimPlace s = .gone → t.claim = s.claim) ∧
          (acceptable → quiet → agreed t = agreed s → t.claim = s.claim ∧ t.cycle.state = s.cycle.state)) ∧
        (∀ r u l, s.claim.state = .held → s.claim.own = some r → u ∈ s.plan.tranches → u.phase = .claimed s.station l →
          (∀ v ∈ s.plan.tranches, claimant v = some s.station → v = u) → BoardLaw s →
          (s.cycle.state = .withdrawing → moveWanted s.travel.state = false) →
          let kept : Prop := ∃ v ∈ t.plan.tranches, v.id = u.id ∧ v.seq = u.seq ∧ claimant v = some s.station
          let o : PourOutcome := match g with
            | .close _ _ q _ c _ => if q = u.seq ∧ c = s.station then .takenOver else .yielded
            | _ => .yielded
          (kept → t.claim.state = .held ∧ t.claim.own = some r) ∧
          (¬ kept →
            t.claim.state = .none ∧ t.claim.own = none ∧ t.claim.trim = false ∧
            (o = .takenOver → hasFlag .takenOver t) ∧ (o = .yielded → hasFlag .yielded t) ∧
            (r.poured = true → t.bills = s.bills) ∧
            (r.poured = false → s.bills.identity = none → t.bills.reserved = false) ∧
            ((s.cycle.state = .idle ∨ s.cycle.state = .withdrawing) → t.dust.exposure = s.dust.exposure →
              t.scale = s.scale) ∧
            (s.cycle.state ≠ .idle → s.cycle.state ≠ .withdrawing →
              t.feed.mode = .shut ∧ gateCode t = 0 ∧ t.cycle.settleMs = none ∧ t.cycle.settleOutcome = none ∧
              t.scale = (if pourBegun s = true ∧ s.scale.pendingClose = none
                then { s.scale with pendingClose := some o } else s.scale) ∧
              (s.cycle.state = .halted → t.cycle.state = .halted ∧ t.cycle.ending = true ∧ t.spout = s.spout) ∧
              (t.cycle.state ≠ .halted → moveWanted t.travel.state = false ∧
                ((s.spout.state = .lowered ∨ s.spout.state = .lowering) → t.spout.state = .raising)) ∧
              (s.cycle.state ≠ .halted → t.dust.exposure = s.dust.exposure → moveWanted s.travel.state = false →
                (s.spout.state ≠ .raised ∨ pourBegun s = true →
                  t.cycle.state = .withdrawing ∧ t.cycle.ending = true) ∧
                (s.spout.state = .raised → pourBegun s = false → t.cycle.state = .idle)))))

/-- R68, R71, R106 to R111: an own frame heard leaves the queue unless renewed, and the board merges it as any other, but
for the claim field of the own BEACON; where it ends no claim and is neither the own CLOSE nor the move span's SPAN, nothing
else happens. R124: a merge that leaves the pending claim no longer acceptable withdraws its queued CLAIM; R113, R130: one
that takes the HELD claim away, other than the own CLOSE, tells YIELDED. Of the own frames left in the queue over a reload of
the same plan number, a TALLY adopted for another tranche does so too, and a CLOSE is merged and told to no one, by the model's
choice (log 63). R146: in RESERVING the move span heard starts the drive toward the target, in MOVING or, within the creep
zone, CREEPING; a renewed one stays queued and the tower RESERVING; dropped, here for a DUST frame that finds the queue full,
it sends the tower back to WAITING with its body, whose SPAN is dropped in its turn. R107, R123: a CLAIM whose merge is void ends the pending claim; an accepted
one is HELD, and the cycle asks the move to its hatch (R162) or, with the withdraw marker, gives the claim back; with the
claim's withdrawal mark it is CLOSING with a RELEASED CLOSE, the mark clear (R126, R118). R129, R167: the own CLOSE ends
CLOSING, its tranche DONE or OPEN on the own board, and may end WITHDRAWING; dropped, it leaves the claim CLOSING and is kept
to be handed over again. That an echo without a frame on the line is nothing, that a tower already within the tolerance
coasts, the receiver's coarse state and the ending marker at a refused move are the model's (logs 4, 23, 29, 38). -/
def Obligations.OwnEchoTaken : Prop :=
  ∀ (e : TxEntry) (s : State),
    let out : Qli := { s.qli with rx := .awaitingGap, queue := queueHeard s }
    let sound : Prop := ∀ c, s.cfg.rail = some c → s.station < c.n
    let merged (g : Frame) : Plan := { s.plan with tranches := mergedTranches s.station true g s }
    ((∀ x ∈ s.qli.queue, x.onLine = none) → exec (.frameHeard .ownEcho) s = .next s) ∧
    (∀ g, lineEntry s = some e → e.onLine = some g → Frame.ofPayload g.cls g.payload = some g → sound →
      let u : State := { s with qli := out, plan := merged g }
      let acceptable : Prop := ∀ r, s.claim.own = some r → ∃ v, findTranche u r.tranche = some v ∧
        v.phase = .vacant ∧ v.seq + 1 = r.seq ∧
        ∀ w ∈ u.plan.tranches, ∀ c l, w.hold = v.hold → w.phase = .claimed c l → c = s.station
      let kept (v : Tranche) : Prop := ∃ w ∈ u.plan.tranches, w.id = v.id ∧ w.seq = v.seq ∧ claimant w = some s.station
      let own (v : Tranche) : Prop := v ∈ s.plan.tranches ∧ claimant v = some s.station
      ∃ t, exec (.frameHeard .ownEcho) s = .next t ∧ t.plan = u.plan ∧ (∀ x ∈ t.qli.queue, x.onLine = none) ∧
        (∀ h, (s.plan.state = .learning ∨ s.plan.state = .ready) → s.plan.header = some h →
          mergedAsRuled s.station g h s t) ∧
        ((s.plan.state = .none ∨ s.plan.state = .building) → t.plan = s.plan) ∧
        (∀ st ref halted auto deg pos lo hi plan check k q,
          g = .beacon st ref halted auto deg pos lo hi plan check k q → t.plan = s.plan) ∧
        ((s.claim.state = .pending → g.isClaim = false ∧ acceptable) →
          (s.claim.state = .held → ∀ v, own v → kept v) →
          (∀ r, s.claim.state = .closing → s.claim.own = some r → r.closeFrame ≠ some g) →
          (∀ lo hi, g = .span lo hi → e.renewed = true ∨ s.travel.state ≠ .reserving) → t = u) ∧
        (s.claim.state = .held → (∃ plan k q o kg, g = .close plan k q o s.station kg) → t = u) ∧
        (s.claim.state = .pending → s.travel.state ≠ .reserving → g.isClaim = false → ¬ acceptable →
          (∃ x ∈ out.queue, x.frame.isClaim = true) →
          t.claim.state = .none ∧ t.claim.own = none ∧ hasFlag .claimLost t ∧
          t.qli.queue = out.queue.filter (fun x => !x.frame.isClaim)) ∧
        (∀ v, s.claim.state = .held → s.claim.own ≠ none → own v → (∀ w, own w → w = v) → ¬ kept v →
          g.isClaim = false → (∀ plan k q o kg, g ≠ .close plan k q o s.station kg) →
          t.claim.state = .none ∧ t.claim.own = none ∧ hasFlag .yielded t)) ∧
    (∀ lo hi g, lineEntry s = some e → e.onLine = some (.span lo hi) → lo ≤ hi → hi < 65536 →
      s.claim.state ≠ .pending → s.travel.state = .reserving → s.travel.target = some g → sound →
      let x := position s
      let d : Dir := if x < g then .high else .low
      let st : TravelState := if Machine.dist x g ≤ (rail s).creepZone then .creeping else .moving
      (e.renewed = true → exec (.frameHeard .ownEcho) s = .next { s with qli := out } ∧
        ∃ y ∈ out.queue, y.frame = e.frame) ∧
      (e.renewed = false → (rail s).arrivalTol < Machine.dist x g → proxActive s d = false →
        exec (.frameHeard .ownEcho) s = .next { s with
          qli := out,
          travel := { s.travel with
            state := st, drive := (if Machine.dist x g ≤ (rail s).creepZone then .creep d else .fast d),
            approach := some (if x < g then .low else .high), correcting := false, stallMs := some 0,
            restMs := none } }) ∧
      (e.renewed = false → (rail s).arrivalTol < Machine.dist x g → proxActive s d = true →
        ∃ t, exec (.frameHeard .ownEcho) s = .next t ∧ t.travel.state = .faulted ∧ t.travel.fault = some .prox ∧
          t.travel.drive = .off ∧ hasFlag .travelFault t) ∧
      (e.renewed = false → Machine.dist x g ≤ (rail s).arrivalTol →
        ∃ t, exec (.frameHeard .ownEcho) s = .next t ∧ t.travel.state = st ∧ t.travel.drive = .off ∧
          t.travel.restMs ≠ none)) ∧
    (∀ front y, s.running = true → s.qli.clash = false → s.qli.queue = front ++ [y] → front.length = 5 →
      (∀ x ∈ front, x.frame.cls < y.frame.cls) → y.onLine = none →
      (s.claim.state ≠ .held ∨ s.scale.pourOpen = false) → 1 ≤ s.dust.repeatCount → repeatDue s = true →
      (∀ lo hi, y.frame = .span lo hi → s.travel.state = .reserving →
        ∃ t, exec .dustRepeat s = .next t ∧ t.travel = { s.travel with state := .waiting, moveSpan := none } ∧
          t.qli.queue.length = 6 ∧ (∀ x ∈ front, x ∈ t.qli.queue) ∧ isQueued (dustFrame s) t ∧
          (∀ x ∈ t.qli.queue, x.frame.cls < y.frame.cls) ∧
          t.qli.txDrop = min 65535 (min 65535 (s.qli.txDrop + 1) + 1)) ∧
      (∀ plan k seq o c kg r, y.frame = .close plan k seq o c kg → s.claim.state = .closing → s.claim.own = some r →
        r.closeFrame = some y.frame →
        ∃ t, exec .dustRepeat s = .next t ∧ t.claim = { s.claim with own := some { r with resend := true } } ∧
          t.qli.queue.length = 6 ∧ (∀ x ∈ front, x ∈ t.qli.queue) ∧ isQueued (dustFrame s) t ∧
          (∀ x ∈ t.qli.queue, x.frame.cls < y.frame.cls) ∧ t.qli.txDrop = min 65535 (s.qli.txDrop + 1) ∧
          t.plan = s.plan ∧ t.cycle = s.cycle)) ∧
    (∀ plan k seq o kg r g, g = .close plan k seq o s.station kg → lineEntry s = some e → e.onLine = some g →
      s.claim.state = .closing → s.claim.own = some r → r.closeFrame = some g →
      ∃ t, exec (.frameHeard .ownEcho) s = .next t ∧ t.claim.state = .none ∧ t.claim.own = none ∧
        t.qli.queue = out.queue ∧
        (s.cycle.state = .withdrawing → s.spout.state = .raised → pourBegun s = false →
          t.cycle.state = .idle ∧ t.cycle.ending = false) ∧
        ((s.cycle.state ≠ .withdrawing ∨ s.spout.state ≠ .raised ∨ pourBegun s = true) → t.cycle = s.cycle) ∧
        (Frame.ofPayload g.cls g.payload = some g → sound → t.qli = out ∧ t.plan = merged g ∧
          ∀ h u, (s.plan.state = .learning ∨ s.plan.state = .ready) → s.plan.header = some h → plan = h.number →
            findTranche s k = some u →
            (seq < u.seq → t.plan = s.plan) ∧
            (u.seq ≤ seq → onlyRecord k { u with
              seq := seq, settled := max u.settled kg,
              phase := if o = .done ∨ u.phase = .done then .done else .vacant } s t)) ∧
        setupKept s t ∧ t.scale = s.scale ∧ t.peers = s.peers ∧ t.travel = s.travel ∧ t.bills = s.bills) ∧
    (∀ k seq hold r h u, lineEntry s = some e → e.onLine = some (.claim h.number k seq hold) →
      1 ≤ k → k ≤ 24 → 1 ≤ hold → hold ≤ 12 → seq < 256 → h.number < 65536 → sound →
      s.claim.state = .pending → s.claim.own = some r →
      (s.plan.state = .learning ∨ s.plan.state = .ready) → s.plan.header = some h → findTranche s k = some u →
      let accepted : Prop := hold = u.hold ∧ u.phase = .vacant ∧ seq = u.seq + 1 ∧
        ∀ v ∈ s.plan.tranches, ∀ c live, v.hold = u.hold → v.phase = .claimed c live → c = s.station
      ∃ t, exec (.frameHeard .ownEcho) s = .next t ∧
        (¬ accepted → t.claim.state = .none ∧ t.claim.own = none ∧ hasFlag .claimLost t ∧ t.plan = s.plan ∧
          t.qli = out ∧ (s.bills.identity = none → t.bills.reserved = false) ∧
          (s.cycle.state = .claiming → t.cycle.state = .idle)) ∧
        (accepted →
          t.plan.tranches = acceptClaim s.station k seq s.plan.tranches ∧
          (∃ v ∈ t.plan.tranches, v.id = k ∧ v.phase = .claimed s.station 0 ∧ v.seq = seq ∧ v.settled = u.settled) ∧
          (∀ v ∈ t.plan.tranches, claimant v = some s.station → v.id = k) ∧
          (r.withdrawMark = true → k = r.tranche →
            t.claim.state = .closing ∧ hasFlag .claimLost t ∧ (s.bills.identity = none → t.bills.reserved = false) ∧
            (∃ c f, f = .close r.plan r.tranche r.seq .released s.station (min 4294967295 u.settled) ∧
              t.claim.own = some c ∧ c.withdrawMark = false ∧ c.closeFrame = some f ∧
              (s.qli.clash = false → out.queue.length < 6 → isQueued f t ∧ c.resend = false)) ∧
            (s.cycle.state = .claiming → t.cycle.state = .idle)) ∧
          (r.withdrawMark = false → hasFlag .claimWon t ∧
            (s.cycle.state ≠ .claiming → t.claim = { s.claim with state := .held } ∧ t.cycle = s.cycle ∧ t.qli = out) ∧
            (s.cycle.state = .claiming → s.cycle.withdrawMark = true → r.poured = false →
              t.claim.state = .closing ∧ t.cycle.state = .withdrawing ∧ t.cycle.ending = true ∧
              t.cycle.withdrawMark = false) ∧
            (s.cycle.state = .claiming → s.cycle.withdrawMark = false → s.travel.state = .stopped →
              s.travel.homing = false → s.spout.state = .raised →
              asksMove r { s with claim := { s.claim with state := .held } } t))))

/-! ### Peers -/

/-- R87, R95, R86: FORGET PEER and READ PEER with their refusals; a forgotten entry is RETIRED with reset fields; at its
timeout a LIVE entry becomes SILENT with PEER_SILENT and keeps its report but for the mismatch mark; after both the
exposure is formed again (R56). READ PEER answers the fields of R81 and R95 at the bytes of R198, three flags and the
presence bytes by the model's choice (log 17). R89, R90: the blocking interval of every entry, R92: the free stretch between
them, R94: when the stations agree. That a timeout is nothing for an entry that is not LIVE or whose age has not reached it is
the model's choice (logs 4, 5). -/
def Obligations.PeersForgottenReadAndSilent : Prop :=
  ∀ (station : Byte) (rest : List Byte) (s : State), frames [station] rest → s.peers.length = 8 →
    (s.running = true → (station.toNat = s.station ∨ (rail s).n ≤ station.toNat) →
      exec (.forgetPeer rest) s = .next (answered 11 rest (refuse .badValue) s)) ∧
    (s.running = true → station.toNat ≠ s.station → station.toNat < (rail s).n →
      (peer s station.toNat).presence = .live →
      exec (.forgetPeer rest) s = .next (answered 11 rest (refuse .state) s)) ∧
    (s.running = true → station.toNat ≠ s.station → station.toNat < (rail s).n →
      (peer s station.toNat).presence = .retired →
      exec (.forgetPeer rest) s = .next (answered 11 rest (done []) s)) ∧
    (s.running = true → station.toNat ≠ s.station → station.toNat < (rail s).n → station.toNat < 8 →
      ((peer s station.toNat).presence = .unheard ∨ (peer s station.toNat).presence = .silent) →
      ∃ t, exec (.forgetPeer rest) s = .next t ∧ replied 11 rest (done []) s t ∧
        peer t station.toNat = { Peer.reset with presence := .retired } ∧
        (∀ j, j ≠ station.toNat → sameReport (peer t j) (peer s j)) ∧ blocking t station.toNat = none ∧
        exposureTold s t ∧ t.plan = s.plan ∧ setupKept s t) ∧
    ((station.toNat = s.station ∨ 8 ≤ station.toNat) →
      exec (.readPeer rest) s = .next (answered 12 rest (refuse .badValue) s)) ∧
    (station.toNat ≠ s.station → station.toNat < 8 →
      exec (.readPeer rest) s = .next (answered 12 rest (done (peerBytes s station.toNat)) s) ∧
        isPeerRecord station.toNat s (peerBytes s station.toNat)) ∧
    (∀ c j, s.cfg.rail = some c →
      ((j = s.station ∨ c.n ≤ j) → blocking s j = none) ∧
      (j ≠ s.station → j < c.n →
        let p := peer s j
        let x := position s
        let heard : Prop := p.presence = .live ∨ p.presence = .silent
        (p.presence = .retired → blocking s j = none) ∧
        (heard → p.pos ≠ none → p.orderFault = true → blocking s j = some { lo := 0, hi := 65535 }) ∧
        (∀ sp, heard → p.pos ≠ none → p.orderFault = false → p.span = some sp →
          blocking s j = some { lo := min 65535 (sp.lo - c.gap), hi := min 65535 (sp.hi + c.gap) }) ∧
        (∀ y, heard → p.pos = some y → p.orderFault = false → p.span = none →
          blocking s j = some { lo := min 65535 (y - (c.half + c.gap)), hi := min 65535 (y + (c.half + c.gap)) }) ∧
        ((p.presence = .unheard ∨ heard ∧ p.pos = none) →
          (s.station < j → blocking s j = if x + (c.half + c.gap) ≤ 65535
            then some { lo := x + (c.half + c.gap), hi := 65535 } else none) ∧
          (j < s.station → blocking s j = if c.half + c.gap ≤ x
            then some { lo := 0, hi := min 65535 (x - (c.half + c.gap)) } else none)))) ∧
    (∀ lo hi, freeStretch s = some { lo := lo, hi := hi } ↔ lo ≤ hi ∧
      (∀ j x, j < 8 → blocking s j = some x → (j < s.station → x.hi < lo) ∧ (s.station < j → hi < x.lo)) ∧
      (lo = 0 ∨ ∃ j x, j < 8 ∧ j < s.station ∧ blocking s j = some x ∧ x.hi + 1 = lo) ∧
      (hi = 65535 ∨ ∃ j x, j < 8 ∧ s.station < j ∧ blocking s j = some x ∧ x.lo = hi + 1)) ∧
    (agreed s = true ↔ ownPlanId s ≠ none ∧ ∀ j, (peer s j).mismatch = false) ∧
    ∀ i : Fin 8,
      (s.running = true → i.val ≠ s.station → (peer s i.val).presence = .live →
        reached (peer s i.val).age (peerTimeout s) = true →
        ∃ t, exec (.peerTimeout i) s = .next t ∧ hasFlag .peerSilent t ∧ (peer t i.val).mismatch = false ∧
          sameReport (peer t i.val) { peer s i.val with
            presence := .silent, mismatch := false, orderFault := (peer t i.val).orderFault } ∧
          (∀ j, j ≠ i.val → sameReport (peer t j) (peer s j)) ∧ exposureTold s t ∧ t.plan = s.plan ∧ setupKept s t) ∧
      ((s.running = false ∨ i.val = s.station ∨ (peer s i.val).presence ≠ .live ∨
          ∃ a, (peer s i.val).age = some a ∧ a < peerTimeout s) →
        exec (.peerTimeout i) s = .next s)

/-! ### The vessel plan -/

/-- R97 to R100: LOAD PLAN, ADD HOLD and ADD TRANCHE with their refusals, and what each adds. That a full list is judged
before the fields is the model's choice (log 58). -/
def Obligations.PlanBuilt : Prop :=
  ∀ (fs rest : List Byte) (s : State), frames fs rest → s.running = true →
    (fs.length = 11 → s.plan.state ≠ .none →
      exec (.loadPlan rest) s = .next (answered 13 rest (refuse .planLoaded) s)) ∧
    (fs.length = 11 → s.plan.state = .none →
      (numAt fs 0 2 = 0 ∨ numAt fs 9 1 = 0 ∨ 12 < numAt fs 9 1 ∨ numAt fs 10 1 = 0 ∨ 24 < numAt fs 10 1) →
      exec (.loadPlan rest) s = .next (answered 13 rest (refuse .badValue) s)) ∧
    (fs.length = 11 → s.plan.state = .none →
      1 ≤ numAt fs 0 2 → 1 ≤ numAt fs 9 1 → numAt fs 9 1 ≤ 12 → 1 ≤ numAt fs 10 1 → numAt fs 10 1 ≤ 24 →
      exec (.loadPlan rest) s = .next (answered 13 rest (done []) { s with
        plan := { state := .building, holds := [], tranches := [], check := none, catchUp := none, cursor := 0,
                  header := some { number := numAt fs 0 2, vesselRef := numAt fs 2 2, trimLimit := numAt fs 4 5,
                                   holdCount := numAt fs 9 1, trancheCount := numAt fs 10 1 } },
        bills := { s.bills with totals := List.replicate 12 0, entries := 0, summary := none } })) ∧
    (fs.length = 7 → s.plan.state = .none →
      exec (.addHold rest) s = .next (answered 14 rest (refuse .noPlan) s) ∧
      exec (.addTranche rest) s = .next (answered 15 rest (refuse .noPlan) s)) ∧
    (fs.length = 7 → (s.plan.state = .learning ∨ s.plan.state = .ready) →
      exec (.addHold rest) s = .next (answered 14 rest (refuse .state) s) ∧
      exec (.addTranche rest) s = .next (answered 15 rest (refuse .state) s)) ∧
    (∀ h, fs.length = 7 → s.plan.state = .building → s.plan.header = some h →
      (h.holdCount ≤ s.plan.holds.length →
        exec (.addHold rest) s = .next (answered 14 rest (refuse .planFull) s)) ∧
      (h.trancheCount ≤ s.plan.tranches.length →
        exec (.addTranche rest) s = .next (answered 15 rest (refuse .planFull) s)) ∧
      (let x : Hold := { number := numAt fs 0 1, offset := signed16 (numAt fs 1 2), half := numAt fs 3 2,
                         lever := signed16 (numAt fs 5 2) }
       s.plan.holds.length < h.holdCount →
        ((1 ≤ x.number ∧ x.number ≤ 12 ∧ 1 ≤ x.half ∧ x.half ≤ 32767 ∧ -2000 ≤ x.lever ∧ x.lever ≤ 2000 ∧
            ∀ y ∈ s.plan.holds, y.number ≠ x.number) →
          exec (.addHold rest) s = .next (answered 14 rest (done [])
            { s with plan := { s.plan with holds := s.plan.holds ++ [x] } })) ∧
        ((x.number = 0 ∨ 12 < x.number ∨ x.half = 0 ∨ 32767 < x.half ∨ x.lever < -2000 ∨ 2000 < x.lever ∨
            ∃ y ∈ s.plan.holds, y.number = x.number) →
          exec (.addHold rest) s = .next (answered 14 rest (refuse .badValue) s))) ∧
      (let x : Tranche := { id := numAt fs 0 1, hold := numAt fs 1 1, target := numAt fs 2 4, pred := numAt fs 6 1,
                            phase := .vacant, seq := 0, settled := 0 }
       s.plan.tranches.length < h.trancheCount →
        ((1 ≤ x.id ∧ x.id ≤ 24 ∧ 1 ≤ x.hold ∧ x.hold ≤ 12 ∧ 1 ≤ x.target ∧ x.target ≤ 4000000 ∧ x.pred ≤ 24 ∧
            x.pred ≠ x.id ∧ ∀ y ∈ s.plan.tranches, y.id ≠ x.id) →
          exec (.addTranche rest) s = .next (answered 15 rest (done [])
            { s with plan := { s.plan with tranches := s.plan.tranches ++ [x] } })) ∧
        ((x.id = 0 ∨ 24 < x.id ∨ x.hold = 0 ∨ 12 < x.hold ∨ x.target = 0 ∨ 4000000 < x.target ∨ 24 < x.pred ∨
            x.pred = x.id ∨ ∃ y ∈ s.plan.tranches, y.id = x.id) →
          exec (.addTranche rest) s = .next (answered 15 rest (refuse .badValue) s))))

/-- R101: the seal fails exactly when one of its five checks does. -/
def Obligations.SealChecks : Prop :=
  ∀ (s : State), sealFailure s = none ↔
    s.plan.holds.length = holdCount s ∧ s.plan.tranches.length = trancheCount s ∧
    (∀ t ∈ s.plan.tranches, ∃ h ∈ s.plan.holds, h.number = t.hold) ∧
    (∀ (i : Nat) (t : Tranche), s.plan.tranches[i]? = some t →
      t.pred = 0 ∨ ∃ (j : Nat) (u : Tranche), j < i ∧ s.plan.tranches[j]? = some u ∧ u.id = t.pred) ∧
    (∀ t ∈ s.plan.tranches, 1 ≤ t.target) ∧
    (∀ h ∈ s.plan.holds, ((rail s).railMin : Int) ≤ (vesselRef s : Int) + h.offset ∧
      (vesselRef s : Int) + h.offset ≤ (rail s).railMax)

/-- R97, R101 to R103: SEAL PLAN outside BUILDING is refused; the first check that fails, the counts, the holds, the
predecessors, the targets, the hatch centres, is named with its hold or tranche and the
plan stays; a plan that passes is LEARNING with its check and the catch-up from zero; the catch-up's end makes it READY.
The check is the sum of R102, whatever the vessel reference and the list order.
The byte beside check 1 is a free value (log 15); that of several that fail one check the first in list order is named, and
check 2 names the tranche, is the model's choice (log 45); that the expiry is nothing outside LEARNING, with its timer standing
still or before the 16 s, is the model's choice (logs 4, 5). -/
def Obligations.PlanSealedAndReady : Prop :=
  ∀ (rest : List Byte) (s : State), frames [] rest →
    (s.running = true → s.plan.state = .none →
      exec (.sealPlan rest) s = .next (answered 16 rest (refuse .noPlan) s)) ∧
    (s.running = true → (s.plan.state = .learning ∨ s.plan.state = .ready) →
      exec (.sealPlan rest) s = .next (answered 16 rest (refuse .state) s)) ∧
    (∀ h, s.running = true → s.plan.state = .building → s.plan.header = some h →
      let counted : Prop := s.plan.holds.length = h.holdCount ∧ s.plan.tranches.length = h.trancheCount
      let known (u : Tranche) : Prop := ∃ y ∈ s.plan.holds, y.number = u.hold
      let placed (before : List Tranche) (u : Tranche) : Prop := u.pred = 0 ∨ ∃ v ∈ before, v.id = u.pred
      let onRail (y : Hold) : Prop := ((rail s).railMin : Int) ≤ (h.vesselRef : Int) + y.offset ∧
        (h.vesselRef : Int) + y.offset ≤ (rail s).railMax
      let allKnown : Prop := ∀ u ∈ s.plan.tranches, known u
      let allPlaced : Prop := ∀ pre u post, s.plan.tranches = pre ++ u :: post → placed pre u
      let allMeant : Prop := ∀ u ∈ s.plan.tranches, 1 ≤ u.target
      let names (check k : Nat) : Prop := exec (.sealPlan rest) s = .next (answered 16 rest
        { status := .refused, reason := .badValue, result := [BitVec.ofNat 8 check, BitVec.ofNat 8 k] } s)
      (¬ counted → ∃ free : Byte, exec (.sealPlan rest) s = .next (answered 16 rest
        { status := .refused, reason := .badValue, result := [1, free] } { s with freeIx := s.freeIx + 1 })) ∧
      (∀ pre u post, s.plan.tranches = pre ++ u :: post →
        (counted → (∀ v ∈ pre, known v) → ¬ known u → names 2 u.id) ∧
        (counted → allKnown → (∀ a v b, pre = a ++ v :: b → placed a v) → ¬ placed pre u → names 3 u.id) ∧
        (counted → allKnown → allPlaced → (∀ v ∈ pre, 1 ≤ v.target) → u.target = 0 → names 4 u.id)) ∧
      (∀ pre y post, s.plan.holds = pre ++ y :: post → counted → allKnown → allPlaced → allMeant →
        (∀ z ∈ pre, onRail z) → ¬ onRail y → names 5 y.number)) ∧
    (∀ h, s.running = true → s.plan.state = .building → s.plan.header = some h → sealFailure s = none →
      ∃ t, exec (.sealPlan rest) s = .next t ∧
        replied 16 rest (done (le 2 (planCheck h s.plan.holds s.plan.tranches))) s t ∧
        t.plan = { s.plan with state := .learning, catchUp := some 0, cursor := 0,
                               check := some (planCheck h s.plan.holds s.plan.tranches) } ∧
        ownPlanId t = some (h.number, planCheck h s.plan.holds s.plan.tranches) ∧
        (let pattern (z : Int) : Nat := if 0 ≤ z then z.toNat else (z + 65536).toNat
         (∀ y ∈ s.plan.holds, -32768 ≤ y.offset ∧ y.offset ≤ 32767 ∧ -2000 ≤ y.lever ∧ y.lever ≤ 2000) →
          h.trimLimit < 2 ^ 40 →
          planCheck h s.plan.holds s.plan.tranches =
            (h.number + h.trimLimit % 65536 + h.trimLimit / 65536 % 65536 + h.trimLimit / 4294967296 +
              (s.plan.holds.map (fun y => y.number + pattern y.offset + y.half + pattern y.lever)).sum +
              (s.plan.tranches.map (fun u => u.id + u.hold + u.target % 65536 + u.target / 65536 + u.pred)).sum) %
              65536) ∧
        (∀ v holds tranches, holds.Perm s.plan.holds → tranches.Perm s.plan.tranches →
          planCheck { h with vesselRef := v } holds tranches = planCheck h s.plan.holds s.plan.tranches) ∧
        (∀ j, sameReport (peer t j) (peer s j)) ∧ setupKept s t) ∧
    (s.plan.state = .learning → reached s.plan.catchUp 16000 = true →
      ∃ t, exec .catchUpEnd s = .next t ∧ hasFlag .planReady t ∧
        t = { s with plan := { s.plan with state := .ready, catchUp := none },
                     link := { s.link with flags := t.link.flags } }) ∧
    ((s.plan.state ≠ .learning ∨ reached s.plan.catchUp 16000 = false) → exec .catchUpEnd s = .next s)

/-- R97, R115, R116, R186, R187: CLOSE PLAN discards the plan and, after the seal, leaves the summary of its holds; READ
TRANCHE and READ SUMMARY answer the records, in 33 bytes and in 16 or a count and 9 for each hold, with the fields of their
rules at the bytes of R198, and change nothing. That READ SUMMARY judges STATE first is the model's reading (log 40); the code
of a board phase and a board total past four bytes are free values (logs 14, 16), the presence bytes and the first place
number the model's choice (log 17). -/
def Obligations.PlanClosedAndRead : Prop :=
  ∀ (n : Byte) (rest rest' : List Byte) (s : State), frames [] rest → frames [n] rest' → s.running = true →
    (s.plan.state = .none → exec (.closePlan rest) s = .next (answered 17 rest (refuse .noPlan) s) ∧
      exec (.readTranche rest') s = .next (answered 18 rest' (refuse .noPlan) s)) ∧
    (s.plan.state = .building → exec (.closePlan rest) s = .next (answered 17 rest (done []) { s with
      plan := .reset, bills := { s.bills with totals := List.replicate 12 0, entries := 0 } })) ∧
    (∀ h, (s.plan.state = .learning ∨ s.plan.state = .ready) → s.plan.header = some h →
      ((s.claim.state ≠ .none ∨ s.cycle.state ≠ .idle) →
        exec (.closePlan rest) s = .next (answered 17 rest (refuse .state) s)) ∧
      (s.claim.state = .none → s.cycle.state = .idle →
        ∃ t m, exec (.closePlan rest) s = .next t ∧ replied 17 rest (done []) s t ∧ t.plan = .reset ∧
          t.bills = { s.bills with totals := List.replicate 12 0, entries := 0, summary := some m } ∧
          m.number = h.number ∧ (∀ c, s.plan.check = some c → m.check = c) ∧ m.closedAt = s.seconds ∧ m.entries = s.bills.entries ∧ m.stray = s.scale.stray ∧
          m.holds.map (fun x => x.number) = s.plan.holds.map (fun x => x.number) ∧
          (∀ x ∈ m.holds, x.boardKg = ((s.plan.tranches.filter (fun t => t.hold == x.number)).map
              (fun t => t.settled + (boardLive t).getD 0)).sum ∧
            x.ownKg = s.bills.totals.getD (x.number - 1) 0) ∧
          t.scale = s.scale ∧ setupKept s t)) ∧
    (∀ t, s.plan.state ≠ .none → findTranche s n.toNat = some t → 1 ≤ n.toNat → n.toNat ≤ 24 →
      exec (.readTranche rest') s = .next (answered 18 rest' (done (trancheBytes s t)) s) ∧
        ∀ before after, s.plan.tranches = before ++ t :: after → (∀ u ∈ before, u.id ≠ t.id) →
          isTrancheRecord before.length t s (trancheBytes s t)) ∧
    (s.plan.state ≠ .none → (findTranche s n.toNat = none ∨ n.toNat = 0 ∨ 24 < n.toNat) →
      exec (.readTranche rest') s = .next (answered 18 rest' (refuse .badValue) s)) ∧
    (s.bills.summary = none → exec (.readSummary rest') s = .next (answered 29 rest' (refuse .state) s)) ∧
    (∀ m, s.bills.summary = some m →
      (n.toNat < 3 → ∃ bytes, summaryPart n.toNat m = some bytes ∧ isSummaryPart n.toNat m bytes ∧
        exec (.readSummary rest') s = .next (answered 29 rest' (done bytes) s)) ∧
      (3 ≤ n.toNat → exec (.readSummary rest') s = .next (answered 29 rest' (refuse .badValue) s)))

/-- R114, R131: a note tick in READY notes the first tranche that is DONE or has settled kilograms, by increasing id from
the one after the cursor and round to the least; TAKEOVER makes its checks in order and hands over a CLOSE for a SILENT
claimant. The ids lie in 1 to 24 by the board law. -/
def Obligations.NotesAndTakeover : Prop :=
  ∀ (k : Byte) (rest : List Byte) (s : State), frames [k] rest →
    (∀ h u, BoardLaw s → s.plan.state = .ready → s.plan.header = some h → u ∈ s.plan.tranches →
      (u.phase = .done ∨ 0 < u.settled) →
      (∀ v ∈ s.plan.tranches, (v.phase = .done ∨ 0 < v.settled) →
        (s.plan.cursor < u.id → v.id ≤ s.plan.cursor ∨ u.id ≤ v.id) ∧
        (u.id ≤ s.plan.cursor → u.id ≤ v.id ∧ v.id ≤ s.plan.cursor)) →
      ∃ t, exec .noteTick s = .next t ∧ t.plan = { s.plan with cursor := u.id } ∧
        (s.qli.clash = false → s.qli.queue.length < 6 →
          (u.phase = .done → isQueued (.note h.number u.id true u.seq u.settled) t) ∧
          (u.phase = .vacant → isQueued (.note h.number u.id false u.seq u.settled) t) ∧
          (∀ c live, u.phase = .claimed c live → isQueued (.note h.number u.id false (u.seq - 1) u.settled) t)) ∧
        setupKept s t ∧ t.scale = s.scale ∧ t.peers = s.peers) ∧
    ((s.plan.state ≠ .ready ∨ ∀ u ∈ s.plan.tranches, u.phase ≠ .done ∧ u.settled = 0) →
      exec .noteTick s = .next s) ∧
    (s.running = true → s.plan.state = .none →
      exec (.takeover rest) s = .next (answered 19 rest (refuse .noPlan) s)) ∧
    (s.running = true → s.plan.state = .building →
      exec (.takeover rest) s = .next (answered 19 rest (refuse .state) s)) ∧
    (∀ h, s.running = true → (s.plan.state = .learning ∨ s.plan.state = .ready) → s.plan.header = some h →
      (findTranche s k.toNat = none → exec (.takeover rest) s = .next (answered 19 rest (refuse .badValue) s)) ∧
      (∀ u, findTranche s k.toNat = some u → (claimant u = none ∨ claimant u = some s.station) →
        exec (.takeover rest) s = .next (answered 19 rest (refuse .state) s)) ∧
      (∀ u c live, findTranche s k.toNat = some u → u.phase = .claimed c live → c ≠ s.station →
        (peer s c).presence ≠ .silent →
        exec (.takeover rest) s = .next (answered 19 rest (refuse .notSilent) s)) ∧
      (∀ u c live, findTranche s k.toNat = some u → u.phase = .claimed c live → c ≠ s.station →
        (peer s c).presence = .silent →
        ∃ t, exec (.takeover rest) s = .next t ∧ replied 19 rest (done []) s t ∧
          (s.qli.clash = false → s.qli.queue.length < 6 → t.claim = s.claim ∧
            isQueued (.close h.number u.id u.seq .released c (min 4294967295 (u.settled + live))) t) ∧
          t.plan = s.plan ∧ t.peers = s.peers ∧ t.scale = s.scale ∧ setupKept s t))

/-! ### Travel and spout -/

/-- R141, R140, R196: HOME starts the search at creep in the home direction, its homing span handed over in a SPAN and the
drive outputs following, or faults at once on an active switch, with the body handed over (R142, R143). A home marker edge, the
input's change to active after RUN, references the station at home cm, with ENCODER_SLIP beyond the tolerance, and ends the
search of an idle station; a parked tower hands its moved body over; a move goes on with its span, narrowed, and the tests
of R147 at the new centimetre, or, outside its span, faults with SPAN_EXIT (R143, R148); the exposure is formed again (R56).
That a value the marker's input already has is no change is log 4's; an overshoot found in MOVING is log 47, and the rest time
from the coast's beginning log 55. -/
def Obligations.HomingAndMarker : Prop :=
  ∀ (rest : List Byte) (s : State), frames [] rest →
    (s.running = true → s.travel.referenced = false → s.spout.state = .raised →
      (s.cycle.state = .idle ∨ s.cycle.state = .halted) → s.travel.state = .stopped →
      ∃ t, exec (.home rest) s = .next t ∧ replied 20 rest (done []) s t ∧
        t.travel.searchStart = some (position s) ∧ t.travel.count = s.travel.count ∧
        (proxActive s (rail s).homeDir = false →
          t.travel.state = .creeping ∧ t.travel.homing = true ∧ t.travel.drive = .creep (rail s).homeDir ∧
          drvEn t = true ∧ drvDir t = some (decide ((rail s).homeDir = .high)) ∧ drvFast t = some false ∧
          t.travel.moveSpan = some (homingSpan s) ∧ t.travel.stallMs = some 0 ∧ t.cycle.state = s.cycle.state ∧
          (s.cfg.rail ≠ none → s.qli.clash = false → s.qli.queue.length < 6 →
            isQueued (.span (homingSpan s).lo (homingSpan s).hi) t)) ∧
        (proxActive s (rail s).homeDir = true →
          t.travel.state = .faulted ∧ t.travel.fault = some .prox ∧ t.travel.drive = .off ∧
          drvEn t = false ∧ t.travel.homing = false ∧ hasFlag .travelFault t ∧
          (s.cfg.rail ≠ none → s.qli.clash = false → s.qli.queue.length < 6 →
            isQueued (.span (body s).lo (body s).hi) t)) ∧
        t.plan = s.plan ∧ t.scale = s.scale ∧ t.peers = s.peers ∧ setupKept s t) ∧
    (s.running = true →
      (s.travel.referenced = true ∨ s.spout.state ≠ .raised ∨ (s.cycle.state ≠ .idle ∧ s.cycle.state ≠ .halted) ∨
        s.travel.state ≠ .stopped) →
      exec (.home rest) s = .next (answered 20 rest (refuse .state) s)) ∧
    (∀ a, (s.running = false ∨ a = false ∨ s.pins.home = true) →
      exec (.homeMarkerEdge a) s = .next { s with pins := { s.pins with home := a } }) ∧
    (s.running = true → s.pins.home = false →
      ∃ t, exec (.homeMarkerEdge true) s = .next t ∧ t.travel.referenced = true ∧
        t.travel.count = (rail s).homeCm * (rail s).countsPerCm ∧ t.pins = { s.pins with home := true } ∧
        (s.travel.referenced = true → ((rail s).homeTol < position s - (rail s).homeCm ∨
            (rail s).homeTol < (rail s).homeCm - position s) → hasFlag .encoderSlip t) ∧
        (s.travel.state = .creeping → s.travel.homing = true → s.cycle.state = .idle →
          t.travel.state = .stopped ∧ t.travel.homing = false ∧ t.travel.drive = .off ∧
          (s.cfg.rail ≠ none → s.qli.clash = false → s.qli.queue.length < 5 → ownSpan s ≠ some (body t) →
            isQueued (.span (body t).lo (body t).hi) t)) ∧
        ((s.travel.state = .stopped ∨ s.travel.state = .faulted) → s.cycle.state ≠ .positioning → s.cfg.rail ≠ none →
          s.qli.clash = false → s.qli.queue.length < 5 → body t ≠ body s → isQueued (.span (body t).lo (body t).hi) t) ∧
        (∀ g sp, DriveLaw s → s.cfg.rail ≠ none → 1 ≤ (rail s).countsPerCm → s.travel.homing = false →
          (s.travel.state = .reserving ∨ s.travel.state = .moving ∨ s.travel.state = .creeping) →
          s.travel.target = some g → s.travel.moveSpan = some sp →
          let x := (rail s).homeCm
          let f := moveFormula s x g
          let own := if s.travel.state ≠ .reserving ∧ sp.lo ≤ f.lo ∧ f.hi ≤ sp.hi then f else sp
          let overshot : Prop := s.travel.approach = some .low ∧ g + (rail s).arrivalTol < x ∨
            s.travel.approach = some .high ∧ x + (rail s).arrivalTol < g
          position t = x ∧
          ((x < sp.lo ∨ sp.hi < x) →
            t.travel.state = .faulted ∧ t.travel.fault = some .spanExit ∧ t.travel.drive = .off ∧
            hasFlag .travelFault t ∧
            (s.cycle.state ≠ .idle → t.cycle.state = .halted ∧ HaltCause.travelFault ∈ t.cycle.causes) ∧
            (s.qli.clash = false → s.qli.queue.length < 6 → isQueued (.span (body t).lo (body t).hi) t)) ∧
          (sp.lo ≤ x → x ≤ sp.hi → s.travel.state = .reserving → t.cycle.state = s.cycle.state →
            overlapping t sp = [] →
            t.travel = { s.travel with count := x * (rail s).countsPerCm, referenced := true }) ∧
          (sp.lo ≤ x → x ≤ sp.hi → s.travel.state ≠ .reserving → overshot → s.travel.correcting = false →
            1 ≤ s.travel.overshoots →
            t.travel.state = .faulted ∧ t.travel.fault = some .overshoot ∧ t.travel.drive = .off ∧
            hasFlag .travelFault t ∧
            (s.cycle.state ≠ .idle → t.cycle.state = .halted ∧ HaltCause.travelFault ∈ t.cycle.causes)) ∧
          (sp.lo ≤ x → x ≤ sp.hi → s.travel.state ≠ .reserving → s.travel.held = false → s.travel.correcting = false →
            t.cycle.state = s.cycle.state → overlapping t own = [] →
            (¬ overshot ∨ s.travel.overshoots = 0 → t.travel.moveSpan = some own ∧ t.travel.target = some g ∧
              (own ≠ sp → s.qli.clash = false → s.qli.queue.length < 6 → isQueued (.span own.lo own.hi) t)) ∧
            (overshot → s.travel.overshoots = 0 →
              t.travel.state = .creeping ∧ t.travel.drive = .off ∧ t.travel.overshoots = 1 ∧
              t.travel.correcting = true ∧ t.travel.restMs = some 0 ∧ t.travel.stallMs = none) ∧
            (Machine.dist x g ≤ (rail s).arrivalTol →
              (s.travel.state = .creeping ∨ Machine.dist x g ≤ (rail s).creepZone) →
              t.travel.state = .creeping ∧ t.travel.drive = .off ∧ t.travel.restMs ≠ none) ∧
            (¬ overshot → (rail s).arrivalTol < Machine.dist x g →
              (s.travel.state = .moving → Machine.dist x g ≤ (rail s).creepZone →
                t.travel.state = .creeping ∧ ∀ d, s.travel.drive = .fast d → t.travel.drive = .creep d) ∧
              ((s.travel.state = .creeping ∨ (rail s).creepZone < Machine.dist x g) →
                t.travel.state = s.travel.state ∧ t.travel.drive = s.travel.drive)))) ∧
        exposureTold s t ∧ t.plan = s.plan ∧ setupKept s t ∧ t.seconds = s.seconds)

/-- R151, R104: MOORING SHIFT moves the vessel reference and nothing else of the plan; a move takes its hold's new centre
as its target by the table of R151: WAITING keeps waiting with nothing but the target changed and no check made, a target
within the move span goes on, one outside it gives the rail back and checks again, and one off the rail ends the move (R163).
A parked tower with the spout up outside POSITIONING is left as it stands; under a spout LOWERED or LOWERING a window lost
tells HATCH_LOST (R152, R173). When the tower acts after the shift, and that a drive already off stays off, is the model's
choice (log 24); a running drive that must turn toward an active proximity switch faults PROX (R142), also within the tolerance
of the new target, which is the model's order (log 64); at the target itself the tower counts as on its HIGH side (log 46); that a claim given back because the new
centre lies off the rail sets the ending marker is read from section 9.1 (log 38). -/
def Obligations.MooringShifted : Prop :=
  ∀ (fs rest : List Byte) (s : State), frames fs rest → fs.length = 2 → s.running = true →
    (s.plan.state = .none → exec (.mooringShift rest) s = .next (answered 21 rest (refuse .noPlan) s)) ∧
    (s.plan.state ≠ .none →
      ∃ t, exec (.mooringShift rest) s = .next t ∧ replied 21 rest (done []) s t ∧
        t.plan = { s.plan with header := s.plan.header.map (fun h => { h with vesselRef := number fs }) } ∧
        (∀ k h, DriveLaw s → s.travel.state = .waiting → s.travel.targetHold = some k → findHold s k = some h →
          targetOnRail s (hatchCentre t h) = true →
          t.travel = { s.travel with target := some (hatchCentre t h) } ∧ t.qli = s.qli ∧ t.cycle = s.cycle ∧
          t.claim = s.claim ∧ t.spout = s.spout ∧ t.feed = s.feed ∧ t.scale = s.scale ∧
          t.link.flags = s.link.flags) ∧
        (s.travel.targetHold = none → s.spout.state = .raised → s.cycle.state ≠ .positioning →
          t.travel = s.travel ∧ t.spout = s.spout ∧ t.cycle = s.cycle ∧ t.claim = s.claim ∧ t.qli = s.qli ∧
          t.feed = s.feed ∧ t.link.flags = s.link.flags) ∧
        t.scale.total = s.scale.total ∧ t.peers = s.peers ∧ setupKept s t ∧ t.travel.count = s.travel.count ∧
        (∀ k h, DriveLaw s → moveWanted s.travel.state = true → s.travel.homing = false →
          s.travel.targetHold = some k → findHold s k = some h →
          let g := hatchCentre t h
          let x := position s
          (targetOnRail s g = false →
            t.travel.state = .stopped ∧ t.travel.drive = .off ∧ t.travel.moveSpan = none ∧ t.travel.target = none ∧
            (s.cycle.state = .positioning → pourBegun s = true →
              t.cycle.state = .settling ∧ t.cycle.settleOutcome = some .withdrawn) ∧
            (∀ r, s.cycle.state = .positioning → pourBegun s = false → s.claim.state = .held →
              s.claim.own = some r → r.poured = false →
              t.cycle.state = .withdrawing ∧ t.cycle.ending = true ∧ t.claim.state = .closing)) ∧
          (∀ sp, targetOnRail s g = true → s.travel.moveSpan = some sp → sp.lo ≤ g → g ≤ sp.hi →
            (s.travel.state = .reserving → t.travel = { s.travel with target := some g }) ∧
            (∀ d, (s.travel.state = .moving ∨ s.travel.state = .creeping) → s.travel.drive.dir = some d →
              let toward : Dir := if x < g then .high else .low
              d ≠ toward → proxActive s toward = true →
              t.travel.state = .faulted ∧ t.travel.fault = some .prox ∧ t.travel.drive = .off) ∧
            ((s.travel.state = .moving ∨ s.travel.state = .creeping) →
              proxActive s .low = false → proxActive s .high = false →
              t.travel.target = some g ∧ t.travel.targetHold = some k ∧ t.travel.moveSpan = some sp ∧
              t.travel.approach = some (if x < g then .low else .high) ∧
              (Machine.dist x g ≤ (rail s).creepZone → t.travel.state = .creeping) ∧
              ((rail s).creepZone < Machine.dist x g → t.travel.state = s.travel.state) ∧
              (Machine.dist x g ≤ (rail s).arrivalTol → t.travel.state = .creeping →
                t.travel.drive = .off ∧ t.travel.restMs ≠ none) ∧
              ((rail s).arrivalTol < Machine.dist x g →
                (∀ d, s.travel.state = .moving → s.travel.drive = .fast d → (rail s).creepZone < Machine.dist x g →
                  t.travel.drive = .fast (if x < g then .high else .low)) ∧
                (∀ d, s.travel.state = .moving → s.travel.drive = .fast d → Machine.dist x g ≤ (rail s).creepZone →
                  t.travel.drive = .creep (if x < g then .high else .low)) ∧
                (∀ d, s.travel.state = .creeping → s.travel.drive = .creep d →
                  t.travel.drive = .creep (if x < g then .high else .low)) ∧
                (s.travel.drive = .off → t.travel.drive = .off)))) ∧
          (∀ sp, targetOnRail s g = true → s.travel.moveSpan = some sp → (g < sp.lo ∨ sp.hi < g) →
            (s.travel.state = .reserving ∨ s.travel.state = .moving ∨ s.travel.state = .creeping) →
            t.travel.target = some g ∧ t.travel.targetHold = some k ∧ t.travel.drive = .off ∧ t.travel.held = false ∧
            (t.travel.state = .waiting ∨ t.travel.state = .reserving) ∧
            (t.travel.state = .reserving → t.travel.moveSpan = some (moveFormula s x g) ∧ s.qli.degraded = false ∧
              overlapping s (moveFormula s x g) = []) ∧
            (s.qli.degraded = false → overlapping s (moveFormula s x g) = [] → s.qli.clash = false →
              s.qli.queue.length < 6 →
              t.travel.state = .reserving ∧ (s.cfg.rail ≠ none →
                isQueued (.span (moveFormula s x g).lo (moveFormula s x g).hi) t)))) ∧
        (∀ r, s.travel.targetHold = none → s.claim.state = .held → s.claim.own = some r → inWindow s = true →
          inWindow { s with plan := t.plan } = false → (s.spout.state = .lowering ∨ s.spout.state = .lowered) →
          s.cycle.state ≠ .idle → s.cycle.state ≠ .withdrawing →
          t.cycle.ending = true ∧ t.cycle.settleMs = none ∧ t.cycle.settleOutcome = none ∧ t.feed.mode = .shut ∧
          (pourBegun s = true → s.scale.pendingClose = none → t.scale.pendingClose = some .hatchLost) ∧
          (r.poured = true → r.closedKg = none → r.endRequest = none →
            t.claim = { s.claim with own := some { r with endRequest := some .released } }) ∧
          (r.poured = false → t.claim.state = .closing) ∧
          (s.cycle.state = .halted → t.cycle.state = .halted ∧ t.spout = s.spout) ∧
          (s.cycle.state ≠ .halted →
            t.cycle.state = .withdrawing ∧ t.spout.state = .raising ∧ t.spout.ms = some 0)))

/-- R139: an edge counts up or down between 0 and 65,536 × C − 1 and restarts the stall timer and the rest time that run
(so does an edge at the count's end, the model's choice, log 48); a change of both inputs is not counted; within one
centimetre nothing else follows. At a new centimetre the move span narrows and its SPAN is handed over (R143), a position
outside it is SPAN_EXIT (R148), a homing search ends at its length (R141), and the creep zone, the arrival and the overshoot
are tested (R147; an overshoot found in MOVING is log 47; the rest time from the coast's beginning is log 55); a parked
tower hands its body over. After RUN the exposure is formed again (R56). That a homing tower at its search's length takes the
distance before the span exit is log 54. -/
def Obligations.EncoderEdges : Prop :=
  ∀ (s : State),
    exec (.encoderEdge .both) s = .next s ∧
    (∃ t, exec (.encoderEdge .up) s = .next t ∧
      t.travel.count = min (65536 * (rail s).countsPerCm - 1) (s.travel.count + 1) ∧
      t.travel.referenced = s.travel.referenced ∧ t.plan = s.plan ∧ t.scale.total = s.scale.total ∧ setupKept s t ∧
      (position t = position s → t = { s with travel := { s.travel with
        count := min (65536 * (rail s).countsPerCm - 1) (s.travel.count + 1),
        stallMs := s.travel.stallMs.map (fun _ => 0), restMs := s.travel.restMs.map (fun _ => 0) } })) ∧
    (∃ t, exec (.encoderEdge .down) s = .next t ∧ t.travel.count = s.travel.count - 1 ∧
      t.travel.referenced = s.travel.referenced ∧ t.plan = s.plan ∧ t.scale.total = s.scale.total ∧ setupKept s t ∧
      (position t = position s → t = { s with travel := { s.travel with
        count := s.travel.count - 1,
        stallMs := s.travel.stallMs.map (fun _ => 0), restMs := s.travel.restMs.map (fun _ => 0) } })) ∧
    ∀ (m : Motion) (count : Nat),
      (m = .up ∧ count = min (65536 * (rail s).countsPerCm - 1) (s.travel.count + 1) ∨
        m = .down ∧ count = s.travel.count - 1) →
      let x := count / (rail s).countsPerCm
      x ≠ position s → s.cfg.rail ≠ none →
      ∃ t, exec (.encoderEdge m) s = .next t ∧ t.travel.count = count ∧ (s.running = true → exposureTold s t) ∧
        (∀ y, s.travel.state = .creeping → s.travel.homing = true → s.travel.searchStart = some y →
          (rail s).homeSearch ≤ Machine.dist x y →
          t.travel.state = .faulted ∧ t.travel.fault = some .stall ∧ t.travel.drive = .off ∧
          t.travel.homing = false ∧ hasFlag .travelFault t) ∧
        ((s.travel.state = .stopped ∨ s.travel.state = .faulted) → s.running = true →
          s.cycle.state ≠ .positioning → s.qli.clash = false → s.qli.queue.length < 5 → body t ≠ body s →
          isQueued (.span (body t).lo (body t).hi) t) ∧
        (∀ g sp own, DriveLaw s → (s.travel.state = .moving ∨ s.travel.state = .creeping) → s.travel.homing = false →
          s.travel.target = some g → s.travel.moveSpan = some sp →
          own = (if sp.lo ≤ (moveFormula s x g).lo ∧ (moveFormula s x g).hi ≤ sp.hi then moveFormula s x g else sp) →
          let overshot : Prop := s.travel.approach = some .low ∧ g + (rail s).arrivalTol < x ∨
            s.travel.approach = some .high ∧ x + (rail s).arrivalTol < g
          ((x < own.lo ∨ own.hi < x) →
            t.travel.state = .faulted ∧ t.travel.fault = some .spanExit ∧ t.travel.drive = .off ∧
            hasFlag .travelFault t ∧
            (s.cycle.state ≠ .idle → t.cycle.state = .halted ∧ HaltCause.travelFault ∈ t.cycle.causes)) ∧
          (own.lo ≤ x → x ≤ own.hi → overshot → s.travel.correcting = false → 1 ≤ s.travel.overshoots →
            t.travel.state = .faulted ∧ t.travel.fault = some .overshoot ∧ t.travel.drive = .off ∧
            hasFlag .travelFault t ∧
            (s.cycle.state ≠ .idle → t.cycle.state = .halted ∧ HaltCause.travelFault ∈ t.cycle.causes)) ∧
          (own.lo ≤ x → x ≤ own.hi → s.travel.held = false → s.travel.correcting = false →
            t.cycle.state = s.cycle.state → overlapping t own = [] →
            (¬ overshot ∨ s.travel.overshoots = 0 → t.travel.moveSpan = some own ∧ t.travel.target = some g ∧
              (own ≠ sp → s.running = true → s.qli.clash = false → s.qli.queue.length < 6 →
                isQueued (.span own.lo own.hi) t)) ∧
            (overshot → s.travel.overshoots = 0 →
              t.travel.state = .creeping ∧ t.travel.drive = .off ∧ t.travel.overshoots = 1 ∧
              t.travel.correcting = true ∧ t.travel.restMs = some 0 ∧ t.travel.stallMs = none) ∧
            (Machine.dist x g ≤ (rail s).arrivalTol →
              (s.travel.state = .creeping ∨ Machine.dist x g ≤ (rail s).creepZone) →
              t.travel.state = .creeping ∧ t.travel.drive = .off ∧ t.travel.restMs = some 0) ∧
            (¬ overshot → (rail s).arrivalTol < Machine.dist x g →
              (s.travel.state = .moving → Machine.dist x g ≤ (rail s).creepZone →
                t.travel.state = .creeping ∧ ∀ d, s.travel.drive = .fast d → t.travel.drive = .creep d) ∧
              ((s.travel.state = .creeping ∨ (rail s).creepZone < Machine.dist x g) →
                t.travel.state = s.travel.state ∧ t.travel.drive = s.travel.drive))))

/-- R142, R148, R168: a proximity switch active on the side the drive runs toward, and a stall timer at its limit, put
the tower in FAULTED with the cause, the drive off and TRAVEL_FAULT raised, and halt the station outside IDLE; on the
other side, or with the drive off, only the switch's stable value changes. That a stall is nothing with the drive off, its
timer standing still or its time not reached is the model's choice (logs 4, 5). -/
def Obligations.TravelFaults : Prop :=
  ∀ (side : Dir) (s : State),
    (∀ a, (a = false ∨ s.travel.drive.dir ≠ some side ∧
        ∀ d, s.travel.drive.dir = some d → proxActive s d = false) →
      exec (.proxSwitchActive side a) s = .next { s with pins := setProx side a s.pins }) ∧
    (s.travel.drive.dir = some side → s.travel.state ≠ .faulted →
      ∃ t, exec (.proxSwitchActive side true) s = .next t ∧ t.travel.state = .faulted ∧
        t.travel.fault = some .prox ∧ t.travel.drive = .off ∧ t.travel.homing = false ∧ hasFlag .travelFault t ∧
        (s.cycle.state ≠ .idle → t.cycle.state = .halted ∧ HaltCause.travelFault ∈ t.cycle.causes) ∧
        (s.cycle.state = .idle → t.cycle.state = .idle) ∧
        t.pins = setProx side true s.pins ∧ t.travel.count = s.travel.count ∧ t.plan = s.plan ∧
        t.scale = s.scale ∧ t.peers = s.peers ∧ setupKept s t) ∧
    (s.travel.drive ≠ .off → reached s.travel.stallMs (rail s).stallTime = true → s.travel.state ≠ .faulted →
      ∃ t, exec .travelStall s = .next t ∧ t.travel.state = .faulted ∧ t.travel.fault = some .stall ∧
        t.travel.drive = .off ∧ t.travel.homing = false ∧ hasFlag .travelFault t ∧
        (s.cycle.state ≠ .idle → t.cycle.state = .halted ∧ HaltCause.travelFault ∈ t.cycle.causes) ∧
        (s.cycle.state = .idle → t.cycle.state = .idle) ∧
        t.travel.count = s.travel.count ∧ t.plan = s.plan ∧ t.scale = s.scale ∧ t.peers = s.peers ∧ setupKept s t) ∧
    ((s.travel.drive = .off ∨ reached s.travel.stallMs (rail s).stallTime = false) → exec .travelStall s = .next s)

/-- R147, R149: at rest within the tolerance the move has arrived and the tower is parked; in POSITIONING that makes the
lower request, taken with the spout RAISED in the window under the permit (R153, R163); at rest outside it the drive
starts again at creep toward the target. R145, R146, R149: a peer's SPAN that changes a blocking interval makes a WAITING
tower repeat its reservation check and sends a RESERVING tower it overlaps back to WAITING; over the span of a running move, an overlapping entry of a lower number makes the tower yield
the rail and check again, while entries of higher numbers alone hold the move, until no overlap is left; a move held for
two beacon ticks whose overlap is still present yields the rail and checks its reservation again. The receiver's states are
the model's coarse ones (log 29). That the end of the rest time is nothing outside CREEPING or before its 200 ms, and that
MOVE HOLD EXPIRY is the whole beacon tick, are the model's choices (logs 4, 5, 9); a move held at rest, or whose overlap
has gone unseen, is log 23. -/
def Obligations.RestAndHold : Prop :=
  ∀ (s : State) (g : Nat), s.travel.target = some g →
    (s.travel.state = .creeping → reached s.travel.restMs 200 = true →
      (position s - g ≤ (rail s).arrivalTol ∧ g - position s ≤ (rail s).arrivalTol) →
      ∃ t, exec .restTimeEnd s = .next t ∧ t.travel.state = .stopped ∧ t.travel.drive = .off ∧
        t.travel.target = none ∧ t.travel.moveSpan = none ∧ t.travel.count = s.travel.count ∧
        (s.cycle.state = .positioning → s.spout.state = .raised → inWindow s = true → permit s = true →
          t.spout = { s.spout with state := .lowering, ms := some 0 }) ∧
        ((s.cycle.state ≠ .positioning ∨ s.spout.state ≠ .raised ∨ inWindow s = false ∨ permit s = false) →
          t.spout = s.spout) ∧ t.cycle = s.cycle ∧
        t.plan = s.plan ∧ t.scale = s.scale ∧ t.peers = s.peers ∧ setupKept s t) ∧
    (s.travel.state = .creeping → reached s.travel.restMs 200 = true → s.travel.held = false →
      ((rail s).arrivalTol < position s - g ∨ (rail s).arrivalTol < g - position s) →
      proxActive s .low = false → proxActive s .high = false →
      exec .restTimeEnd s = .next { s with travel := { s.travel with
        drive := .creep (if position s < g then .high else .low),
        approach := some (if position s < g then .low else .high),
        correcting := false, stallMs := some 0, restMs := none } }) ∧
    ((s.travel.state ≠ .creeping ∨ reached s.travel.restMs 200 = false) → exec .restTimeEnd s = .next s) ∧
    (∀ b lo hi sp, b < 8 → b ≠ s.station → s.peers.length = 8 → (s.qli.rx = .lineIdle ∨ s.qli.rx = .inFrame) →
      s.cfg.rail ≠ none → (∀ c, s.cfg.rail = some c → b < c.n) → lo ≤ hi → hi < 65536 → s.running = true →
      (s.travel.moveSpan = some sp ∨ s.travel.state = .waiting) →
      ∃ t, exec (.frameHeard (.other ((Frame.span lo hi).wire b))) s = .next t ∧
        let meets (i : Nat) : Prop := i < 8 ∧ ∃ x, blocking t i = some x ∧ x.overlaps sp = true
        ((∀ i, i < 8 → blocking t i = blocking s i) → t.dust.exposure = s.dust.exposure → t.travel = s.travel) ∧
        ((∃ i, i < 8 ∧ blocking t i ≠ blocking s i) → t.dust.exposure = s.dust.exposure →
          (s.travel.state = .waiting → rechecked g 5 s t) ∧
          (s.travel.state = .reserving →
            ((∃ i, meets i) → t.travel.state = .waiting ∧ t.travel.moveSpan = none ∧ t.travel.drive = .off ∧
              t.travel.target = some g ∧ t.travel.targetHold = s.travel.targetHold ∧
              (s.qli.clash = false → s.qli.queue.length < 6 → isQueued (.span (body t).lo (body t).hi) t)) ∧
            ((∀ i, ¬ meets i) → t.travel = s.travel)) ∧
          ((s.travel.state = .moving ∨ s.travel.state = .creeping) → s.travel.homing = false →
            ((∃ i, i < s.station ∧ meets i) → t.travel.held = false ∧ t.travel.drive = .off ∧
              (t.travel.state = .reserving ∨ t.travel.state = .waiting) ∧ t.travel.target = some g ∧
              t.travel.targetHold = s.travel.targetHold ∧ t.travel.overshoots = s.travel.overshoots) ∧
            ((∃ i, meets i) → (∀ i, i < s.station → ¬ meets i) → s.travel.held = false →
              t.travel = { s.travel with held := true, holdTicks := 0, drive := .off, stallMs := none }) ∧
            ((∃ i, meets i) → (∀ i, i < s.station → ¬ meets i) → s.travel.held = true → t.travel = s.travel) ∧
            ((∀ i, ¬ meets i) → s.travel.held = false → t.travel = s.travel) ∧
            ((∀ i, ¬ meets i) → s.travel.held = true → s.travel.restMs ≠ none →
              t.travel = { s.travel with held := false, holdTicks := 0 }) ∧
            (∀ d, (∀ i, ¬ meets i) → s.travel.held = true → s.travel.restMs = none →
              d = (if position s < g then Dir.high else .low) → proxActive s d = false →
              t.travel.held = false ∧ t.travel.state = s.travel.state ∧ t.travel.stallMs = some 0 ∧
              t.travel.drive = (if s.travel.state = .moving then .fast d else .creep d))))) ∧
    ((s.running = false ∨ s.travel.held = false ∨ s.travel.holdTicks = 0 ∨
        ∀ sp i, s.travel.moveSpan = some sp → i < 8 → ∀ x, blocking s i = some x → x.overlaps sp = false) →
      exec .moveHoldExpiry s = .next s) ∧
    (∀ sp i x, s.running = true → s.travel.held = true → 1 ≤ s.travel.holdTicks → s.travel.moveSpan = some sp → i < 8 →
      blocking s i = some x → x.overlaps sp = true →
      (s.travel.state = .moving ∨ s.travel.state = .creeping) → s.cycle.state ≠ .idle →
      ∃ t, exec .moveHoldExpiry s = .next t ∧ exec .beaconTick s = .next t ∧ t.travel.held = false ∧
        t.travel.drive = .off ∧ (t.travel.state = .reserving ∨ t.travel.state = .waiting) ∧
        t.travel.target = some g ∧ t.travel.count = s.travel.count ∧ t.plan = s.plan ∧ t.scale = s.scale ∧
        setupKept s t)

/-- R153 to R155, R157: a spout that moves by itself is JAMMED with SPOUT_DRIFT, a movement that reaches its limit ends
there, one that takes too long is JAMMED with TIMEOUT, each halting a station outside IDLE (R168); before RUN the spout
state follows the limits. LOWERED in POSITIONING asks for the opening (R164), RAISED in WITHDRAWING can end it (R167), and
RAISED in POSITIONING makes a lower request, taken in the window under the permit, or a move request (R163); so does a
change of the permit. That a limit's change ends a movement is the model's reading (log 25); that a value the limit already
has is no change, and a timeout nothing outside a movement or before its time, is its choice (logs 4, 5), and so is that
JAMMED before RUN raises no event (log 53); the ending marker at a refused move is read from section 9.1 (log 38). -/
def Obligations.SpoutLimitsAndTimeout : Prop :=
  ∀ (l : Limit) (a : Bool) (s : State),
    (s.running = true → (l = .raised ∧ s.pins.raised = a ∨ l = .lowered ∧ s.pins.lowered = a) →
      exec (.limitSwitchChange l a) s = .next s) ∧
    (s.running = false → exec (.limitSwitchChange l a) s = .next { s with
      pins := setLimit l a s.pins,
      spout := Spout.fromLimits (setLimit l a s.pins).raised (setLimit l a s.pins).lowered }) ∧
    (s.running = true → setLimit l a s.pins ≠ s.pins →
      ((s.spout.state = .raised ∧ ((l = .raised ∧ a = false) ∨ (l = .lowered ∧ a = true))) ∨
        (s.spout.state = .lowered ∧ ((l = .lowered ∧ a = false) ∨ (l = .raised ∧ a = true)))) →
      ∃ t, exec (.limitSwitchChange l a) s = .next t ∧ t.spout = { state := .jammed, jam := some .drift, ms := none } ∧
        hasFlag .spoutJam t ∧ t.pins = setLimit l a s.pins ∧
        (s.cycle.state ≠ .idle → t.cycle.state = .halted ∧ HaltCause.spoutDrift ∈ t.cycle.causes) ∧
        (s.travel.state ≠ .faulted → t.travel.state = .stopped) ∧
        t.plan = s.plan ∧ t.scale = s.scale ∧ t.peers = s.peers ∧ setupKept s t) ∧
    (s.running = true → s.pins.lowered = false → s.spout.state = .lowering →
      ∃ t, exec (.limitSwitchChange .lowered true) s = .next t ∧ t.spout.state = .lowered ∧ t.spout.ms = none ∧
        (s.cycle.state = .positioning → s.scale.pourOpen = false → s.scale.pendingOpen = false →
          t.scale = { s.scale with pendingOpen := true }) ∧
        t.plan = s.plan ∧ t.peers = s.peers ∧ setupKept s t) ∧
    (s.running = true → s.pins.raised = false → s.spout.state = .raising → s.cycle.state ≠ .positioning →
      ∃ t, exec (.limitSwitchChange .raised true) s = .next t ∧ t.spout.state = .raised ∧ t.spout.ms = none ∧
        (s.cycle.state = .withdrawing → s.scale.pourOpen = false → s.scale.pendingOpen = false →
          s.claim.state = .none → t.cycle.state = .idle ∧ t.cycle.ending = false) ∧
        t.plan = s.plan ∧ t.scale = s.scale ∧ t.peers = s.peers ∧ setupKept s t) ∧
    (s.running = true → (s.spout.state = .lowering ∧ l = .raised ∨ s.spout.state = .raising ∧ l = .lowered ∨
        s.spout.state = .jammed) →
      exec (.limitSwitchChange l a) s = .next { s with pins := setLimit l a s.pins }) ∧
    (s.running = true → s.pins.raised = false → s.spout.state = .raising → s.cycle.state = .positioning →
      s.travel.state = .stopped →
      s.travel.homing = false →
      ∃ t, exec (.limitSwitchChange .raised true) s = .next t ∧ t.plan = s.plan ∧ t.scale = s.scale ∧ setupKept s t ∧
        (inWindow s = true → permit s = true →
          t.spout = { state := .lowering, jam := none, ms := some 0 } ∧ t.cycle = s.cycle ∧ t.travel = s.travel) ∧
        (inWindow s = true → permit s = false →
          t.spout = { state := .raised, jam := none, ms := none } ∧ t.cycle = s.cycle ∧ t.travel = s.travel) ∧
        (∀ c, inWindow s = false → s.claim.state = .held → s.claim.own = some c → asksMove c s t)) ∧
    (∀ contact b, s.running = true → s.spout.state = .raised → s.cycle.state = .positioning →
      s.travel.state = .stopped → inWindow s = true → permit s = false →
      permit { s with pins := setContact contact b s.pins } = true →
      (s.travel.homing = false → exec (.permitChange contact b) s = .next { s with
        pins := setContact contact b s.pins, spout := { s.spout with state := .lowering, ms := some 0 },
        cycle := (recordPauses s).cycle }) ∧
      (s.travel.homing = true → exec (.permitChange contact b) s = .next { s with
        pins := setContact contact b s.pins, cycle := (recordPauses s).cycle })) ∧
    ((s.spout.state = .lowering ∨ s.spout.state = .raising) → reached s.spout.ms (spoutLimit s) = true →
      ∃ t, exec .spoutTimeout s = .next t ∧ t.spout = { state := .jammed, jam := some .timeout, ms := none } ∧
        hasFlag .spoutJam t ∧
        (s.cycle.state ≠ .idle → t.cycle.state = .halted ∧ HaltCause.spoutJam ∈ t.cycle.causes) ∧
        (s.cycle.state = .idle → t.cycle = s.cycle) ∧
        t.plan = s.plan ∧ t.scale = s.scale ∧ t.peers = s.peers ∧ setupKept s t) ∧
    ((s.spout.state = .raised ∨ s.spout.state = .lowered ∨ s.spout.state = .jammed ∨
        reached s.spout.ms (spoutLimit s) = false) →
      exec .spoutTimeout s = .next s)

/-! ### The cycle -/

/-- R159: START sets the auto flag and nothing else, is refused before RUN and during a calibration; a calibration and
automatic work do not overlap, whatever the step. -/
def Obligations.StartSetsAuto : Prop :=
  (∀ (rest : List Byte) (s : State), frames [] rest →
    (s.running = false → exec (.start rest) s = .next (answered 22 rest (refuse .notRunning) s)) ∧
    (s.running = true → s.scale.calRunning = true →
      exec (.start rest) s = .next (answered 22 rest (refuse .state) s)) ∧
    (s.running = true → s.scale.calRunning = false →
      exec (.start rest) s = .next (answered 22 rest (done []) { s with cycle := { s.cycle with auto := true } })) ∧
    (s.running = true → s.scale.calRunning = false → s.cycle.auto = true →
      exec (.start rest) s = .next (answered 22 rest (done []) s))) ∧
  ∀ (s t : State), AutoLaw s → step s = .next t → AutoLaw t

/-- R172: STOP clears the auto flag; in IDLE, SETTLING and WITHDRAWING it does no more; in CLAIMING it asks the pending claim
back, from a hatch it settles a pour as WITHDRAWN, the spout staying where it is, or withdraws, raising a LOWERING or LOWERED spout
(R167), and in HALTED it withdraws, or remembers the withdrawal while
a halt cause blocks it. -/
def Obligations.StopWithdraws : Prop :=
  ∀ (rest : List Byte) (s : State), frames [] rest → s.running = true →
    ((s.cycle.state = .idle ∨ s.cycle.state = .settling ∨ s.cycle.state = .withdrawing) →
      exec (.stop rest) s = .next (answered 23 rest (done []) { s with cycle := { s.cycle with auto := false } })) ∧
    (s.cycle.state = .halted → haltSteps s = none →
      exec (.stop rest) s = .next (answered 23 rest (done [])
        { s with cycle := { s.cycle with auto := false, withdrawMark := true } })) ∧
    ((s.cycle.state = .pouring ∨ s.cycle.state = .paused) →
      ∃ t, exec (.stop rest) s = .next t ∧ replied 23 rest (done []) s t ∧ t.cycle.state = .settling ∧
        t.cycle.settleOutcome = some .withdrawn ∧ t.cycle.settleMs = some 0 ∧ t.cycle.auto = false ∧
        t.feed.mode = .shut ∧ gateCode t = 0 ∧ t.claim = s.claim ∧ t.plan = s.plan ∧ t.scale = s.scale ∧
        t.travel = s.travel ∧ t.spout = s.spout ∧ t.qli = s.qli ∧ setupKept s t) ∧
    (s.cycle.state = .positioning →
      ∃ t, exec (.stop rest) s = .next t ∧ replied 23 rest (done []) s t ∧ t.cycle.auto = false ∧
        ((s.scale.pourOpen = true ∨ s.scale.pendingOpen = true) →
          t.cycle.state = .settling ∧ t.cycle.settleOutcome = some .withdrawn ∧ t.cycle.settleMs = some 0 ∧
          t.spout = s.spout) ∧
        (s.scale.pourOpen = false → s.scale.pendingOpen = false →
          (t.cycle.state = .withdrawing ∨ t.cycle.state = .idle) ∧
          ((s.spout.state = .lowering ∨ s.spout.state = .lowered) →
            t.spout = { s.spout with state := .raising, ms := some 0 } ∧ t.cycle.state = .withdrawing) ∧
          (s.spout.state ≠ .lowering → s.spout.state ≠ .lowered → t.spout = s.spout) ∧
          ∀ r, s.claim.state = .held → s.claim.own = some r → r.poured = false →
            t.claim.state = .closing ∧ t.cycle.state = .withdrawing ∧ t.cycle.ending = true) ∧
        (s.travel.state ≠ .faulted → t.travel.state = .stopped) ∧
        (moveWanted s.travel.state = true → t.travel.drive = .off) ∧
        t.plan = s.plan ∧ t.scale = s.scale ∧ setupKept s t) ∧
    (s.cycle.state = .claiming → s.claim.state = .pending →
      ∃ t, exec (.stop rest) s = .next t ∧ replied 23 rest (done []) s t ∧ t.cycle.auto = false ∧
        (claimPlace s = .queued → t.cycle.state = .idle ∧ t.claim.state = .none ∧ t.cycle.withdrawMark = false ∧
          hasFlag .claimLost t ∧ ∀ e ∈ t.qli.queue, e.frame.isClaim = true → e.onLine ≠ none) ∧
        (claimPlace s = .onLine → t.cycle.state = .claiming ∧ t.claim.state = .pending ∧ t.cycle.withdrawMark = true) ∧
        t.plan = s.plan ∧ t.scale = s.scale ∧ setupKept s t) ∧
    (∀ u, s.cycle.state = .halted → haltSteps s = some u →
      ∃ t, exec (.stop rest) s = .next t ∧ replied 23 rest (done []) s t ∧ t.cycle.auto = false ∧
        t.cycle.causes = [] ∧ t.cycle.withdrawMark = false ∧
        (t.cycle.state = .withdrawing ∨ t.cycle.state = .settling ∨ t.cycle.state = .idle) ∧
        t.plan = s.plan ∧ t.scale = s.scale ∧ setupKept s t)

/-- R168, R169: HALT is refused in IDLE; elsewhere HOST_HALT stands, the station is HALTED with the gate shut and the drive
off, a lowering spout reversed, and a held claim and the pour stay as they are. HALTED is raised at the entry and for a cause
that joins, which the open pour's record takes (R164); a pending claim still queued is gone with its slot, one on the line is
marked withdrawn (R124, R125). In HALTED nothing but the standing set moves. -/
def Obligations.HaltStopsTheTower : Prop :=
  ∀ (rest : List Byte) (s : State), frames [] rest → s.running = true →
    (s.cycle.state = .idle → exec (.halt rest) s = .next (answered 24 rest (refuse .state) s)) ∧
    (s.cycle.state ≠ .idle →
      ∃ t, exec (.halt rest) s = .next t ∧ replied 24 rest (done []) s t ∧ t.cycle.state = .halted ∧
        HaltCause.hostHalt ∈ t.cycle.causes ∧
        (s.cycle.state ≠ .halted → t.cycle.haltCause = some .hostHalt ∧ t.cycle.causes = [.hostHalt] ∧
          hasFlag .halted t ∧ t.feed.mode = .shut ∧ (moveWanted s.travel.state = true → t.travel.drive = .off) ∧
          t.cycle.settleMs = s.cycle.settleMs ∧
          (s.scale.pourOpen = true → t.cycle.lastHalt = some .hostHalt) ∧
          (s.spout.state = .lowering → t.spout.state = .raising) ∧ (s.spout.state ≠ .lowering → t.spout = s.spout) ∧
          (s.claim.state = .pending → claimPlace s = .queued →
            t.claim.state = .none ∧ t.claim.own = none ∧ hasFlag .claimLost t ∧
            (s.bills.identity = none → t.bills.reserved = false) ∧
            (moveWanted s.travel.state = false → ∀ e ∈ t.qli.queue, e.frame.isClaim = true → e.onLine ≠ none)) ∧
          (∀ r, s.claim.state = .pending → s.claim.own = some r → claimPlace s = .onLine →
            (∀ e ∈ s.qli.queue, e.frame.isClaim = true → e.onLine ≠ none) →
            t.claim = { s.claim with own := some { r with withdrawMark := true } } ∧
            ∀ e ∈ t.qli.queue, e.frame.isClaim = true → e.onLine ≠ none ∧ e.withdrawn = true)) ∧
        (s.cycle.state = .halted → HaltCause.hostHalt ∈ s.cycle.causes → t.cycle = s.cycle) ∧
        (s.cycle.state = .halted → HaltCause.hostHalt ∉ s.cycle.causes →
          t.cycle = { s.cycle with
            causes := s.cycle.causes ++ [.hostHalt],
            lastHalt := if s.scale.pourOpen = true then some .hostHalt else s.cycle.lastHalt } ∧ hasFlag .halted t) ∧
        (s.cycle.state = .halted → t.travel = s.travel ∧ t.spout = s.spout ∧ t.feed = s.feed ∧ t.claim = s.claim ∧
          t.qli = s.qli) ∧
        (s.claim.state = .held → t.claim = s.claim) ∧ t.scale = s.scale ∧ t.plan = s.plan ∧ setupKept s t)

/-- R170, R155: CLEAR HALT is refused outside IDLE and HALTED and while a cause blocks it, with nothing changed; a jam clears
where one limit alone is active, a travel fault always. The cycle then leaves HALTED: with the withdraw marker as WITHDRAW
does (R171); for WITHDRAWING with the ending marker set or no held claim; for SETTLING with a settle under way; for the
pour, or its pause, with a pour open under a lowered spout (R164); and otherwise for POSITIONING, which acts on the
conditions as they stand (R163). The attendance timer restarts outside IDLE. The ending marker at a refused move is read
from section 9.1 (log 38); that the travel is stopped on the way to IDLE is the model's choice (log 60). -/
def Obligations.ClearHaltLeaves : Prop :=
  ∀ (rest : List Byte) (s : State), frames [] rest → s.running = true →
    ((s.cycle.state ≠ .idle ∧ s.cycle.state ≠ .halted) →
      exec (.clearHalt rest) s = .next (answered 25 rest (refuse .state) s)) ∧
    (s.cycle.state = .halted → (HaltCause.stationClash ∈ s.cycle.causes ∨ HaltCause.ownTrip ∈ s.cycle.causes ∨
        (HaltCause.hostLapse ∈ s.cycle.causes ∧ s.cycle.lapseAnswered = false) ∨
        (s.spout.state = .jammed ∧ s.pins.raised = s.pins.lowered)) →
      exec (.clearHalt rest) s = .next (answered 25 rest (refuse .state) s)) ∧
    (s.cycle.state = .idle → s.spout.state = .jammed → s.pins.raised = s.pins.lowered →
      exec (.clearHalt rest) s = .next (answered 25 rest (refuse .state) s)) ∧
    (s.cycle.state = .idle → s.spout.state ≠ .jammed → s.travel.state ≠ .faulted →
      exec (.clearHalt rest) s = .next (answered 25 rest (done []) s)) ∧
    (s.cycle.state = .idle → s.spout.state ≠ .jammed → s.travel.state = .faulted →
      exec (.clearHalt rest) s = .next (answered 25 rest (done [])
        { s with travel := { s.travel with state := .stopped, fault := none, overshoots := 0 } })) ∧
    (s.cycle.state = .idle → s.spout.state = .jammed → s.pins.raised ≠ s.pins.lowered → s.travel.state ≠ .faulted →
      exec (.clearHalt rest) s = .next (answered 25 rest (done []) { s with
        spout := { state := if s.pins.raised then .raised else .lowered, jam := none, ms := none } })) ∧
    (s.cycle.state = .idle → s.spout.state = .jammed → s.pins.raised ≠ s.pins.lowered → s.travel.state = .faulted →
      exec (.clearHalt rest) s = .next (answered 25 rest (done []) { s with
        spout := { state := if s.pins.raised then .raised else .lowered, jam := none, ms := none },
        travel := { s.travel with state := .stopped, fault := none, overshoots := 0 } })) ∧
    (HaltCause.stationClash ∉ s.cycle.causes → HaltCause.ownTrip ∉ s.cycle.causes →
      (HaltCause.hostLapse ∈ s.cycle.causes → s.cycle.lapseAnswered = true) →
      (s.spout.state = .jammed → s.pins.raised ≠ s.pins.lowered) →
      ∃ u, haltSteps s = some u ∧
        (s.spout.state ≠ .jammed → u.spout = s.spout) ∧
        (s.spout.state = .jammed →
          u.spout = { state := if s.pins.raised then .raised else .lowered, jam := none, ms := none }) ∧
        (s.travel.state ≠ .faulted → u.travel = s.travel) ∧
        (s.travel.state = .faulted →
          u.travel = { s.travel with state := .stopped, fault := none, overshoots := 0 })) ∧
    (∀ u, s.cycle.state = .halted → haltSteps s = some u → s.cycle.withdrawMark = false →
      ∃ t, exec (.clearHalt rest) s = .next t ∧ replied 25 rest (done []) s t ∧
        ((s.cycle.ending = true ∨ s.claim.state ≠ .held) →
          t.cycle.causes = [] ∧ moveWanted t.travel.state = false ∧
          (u.spout.state = .raised → s.claim.state = .none → pourBegun s = false → t.cycle.state = .idle) ∧
          ((u.spout.state ≠ .raised ∨ s.claim.state ≠ .none ∨ pourBegun s = true) → t.cycle.state = .withdrawing)) ∧
        (s.cycle.ending = false → s.claim.state = .held → s.cycle.settleMs ≠ none →
          t.cycle.causes = [] ∧ t.cycle.state = .settling ∧ t.cycle.settleMs = s.cycle.settleMs ∧
          t.cycle.settleOutcome = s.cycle.settleOutcome) ∧
        (s.cycle.ending = false → s.claim.state = .held → s.cycle.settleMs = none → s.scale.pourOpen = true →
          u.spout.state = .lowered → entersPour s.scale.openGrams u t ∧
          (t.cycle.state = .pouring ∨ t.cycle.state = .settling ∨ t.cycle.state = .paused → t.cycle.causes = [])) ∧
        (s.cycle.ending = false → s.claim.state = .held → s.cycle.settleMs = none →
          (s.scale.pourOpen = false ∨ u.spout.state ≠ .lowered) →
          t.cycle.causes = [] ∧
          (u.spout.state = .lowered → t.cycle.state = .positioning ∧ t.scale = { s.scale with pendingOpen := true } ∧
            ∀ c, s.claim.own = some c → s.scale.pendingOpen = false →
              t.claim.own = some { c with poured := true } ∧
              t.bills.identity = some { plan := c.plan, tranche := c.tranche, hold := c.hold, seq := c.seq }) ∧
          ((u.spout.state = .lowering ∨ u.spout.state = .raising) →
            t.cycle.state = .positioning ∧ t.spout = u.spout) ∧
          (u.spout.state = .raised → u.travel.state = .stopped → u.travel.homing = false →
            (inWindow s = true → permit s = true →
              t.cycle.state = .positioning ∧ t.spout.state = .lowering ∧ t.spout.ms = some 0) ∧
            (inWindow s = true → permit s = false → t.cycle.state = .positioning ∧ t.spout = u.spout) ∧
            (∀ c, inWindow s = false → s.claim.own = some c → asksMove c u t))) ∧
        (t.cycle.state ≠ .idle → t.cycle.state ≠ .halted → ∀ l, s.cfg.lines = some l →
          t.cycle.attendMs = if l.attendance = 0 then none else some 0) ∧
        t.plan = s.plan ∧ t.pins = s.pins ∧ t.scale.total = s.scale.total ∧ setupKept s t) ∧
    (∀ u, s.cycle.state = .halted → haltSteps s = some u → s.cycle.withdrawMark = true →
      ∃ t, exec (.clearHalt rest) s = .next t ∧ replied 25 rest (done []) s t ∧ t.cycle.withdrawMark = false ∧
        t.cycle.causes = [] ∧
        ((s.cycle.ending = true ∨ s.claim.state ≠ .held) →
          t.cycle.state = .withdrawing ∨ t.cycle.state = .idle) ∧
        (s.cycle.ending = false → s.claim.state = .held → s.cycle.settleMs ≠ none →
          t.cycle.state = .settling ∧ t.cycle.settleOutcome = s.cycle.settleOutcome) ∧
        (s.cycle.ending = false → s.claim.state = .held → s.cycle.settleMs = none → pourBegun s = true →
          t.cycle.state = .settling ∧ t.cycle.settleOutcome = some .withdrawn ∧ t.cycle.settleMs = some 0) ∧
        (∀ c, s.cycle.ending = false → s.claim.state = .held → s.claim.own = some c → c.poured = false →
          s.cycle.settleMs = none → pourBegun s = false →
          t.claim.state = .closing ∧ t.cycle.state = .withdrawing ∧ t.cycle.ending = true) ∧
        t.plan = s.plan ∧ t.scale = s.scale ∧ t.pins = s.pins ∧ setupKept s t)

/-- R171, R160: WITHDRAW is refused outside HALTED and PAUSED and while a cause blocks it; otherwise it
withdraws, keeps the settle under way, settles the pour as WITHDRAWN, or gives an unpoured claim back. KEEP restarts the
attendance timer outside IDLE and answers a standing HOST_LAPSE. -/
def Obligations.WithdrawAndKeep : Prop :=
  ∀ (rest : List Byte) (s : State), frames [] rest → s.running = true →
    ((s.cycle.state ≠ .paused ∧ s.cycle.state ≠ .halted) →
      exec (.withdraw rest) s = .next (answered 26 rest (refuse .state) s)) ∧
    (s.cycle.state = .halted → haltSteps s = none →
      exec (.withdraw rest) s = .next (answered 26 rest (refuse .state) s)) ∧
    ((s.cycle.state = .paused ∨ s.cycle.state = .halted ∧ haltSteps s ≠ none) →
      ∃ t, exec (.withdraw rest) s = .next t ∧ replied 26 rest (done []) s t ∧ t.cycle.withdrawMark = false ∧
        (s.cycle.state = .halted → t.cycle.causes = []) ∧
        ((s.cycle.ending = true ∨ s.claim.state ≠ .held) →
          t.cycle.state = .withdrawing ∨ t.cycle.state = .idle) ∧
        (s.cycle.ending = false → s.claim.state = .held → s.cycle.settleMs ≠ none →
          t.cycle.state = .settling ∧ t.cycle.settleOutcome = s.cycle.settleOutcome) ∧
        (s.cycle.ending = false → s.claim.state = .held → s.cycle.settleMs = none →
          (s.scale.pourOpen = true ∨ s.scale.pendingOpen = true) →
          t.cycle.state = .settling ∧ t.cycle.settleOutcome = some .withdrawn ∧ t.cycle.settleMs = some 0) ∧
        (∀ r, s.cycle.ending = false → s.claim.state = .held → s.claim.own = some r → r.poured = false →
          s.cycle.settleMs = none → s.scale.pourOpen = false → s.scale.pendingOpen = false →
          t.claim.state = .closing ∧ t.cycle.state = .withdrawing ∧ t.cycle.ending = true) ∧
        t.plan = s.plan ∧ t.scale = s.scale ∧ setupKept s t) ∧
    (∀ c, s.cfg.lines = some c →
      exec (.keep rest) s = .next (answered 27 rest (done []) { s with cycle := { s.cycle with
        attendMs := if s.cycle.state = .idle then s.cycle.attendMs else if c.attendance = 0 then none else some 0,
        lapseAnswered := s.cycle.lapseAnswered || s.cycle.causes.contains .hostLapse } }))

/-- R161: the permit is the table's entry at P1 + 2·P2 + 4·P3, false before LINES. R161, R165: a contact's change that
leaves the permit changes only its stable value; a fall of the permit in POURING shuts the gate and pauses; a rise in PAUSED
with no other cause goes back to the pour, with a regulate request of the share computed afresh (R24, R164). -/
def Obligations.PermitPauses : Prop :=
  ∀ (c : Contact) (a : Bool) (s : State),
    (s.cfg.lines = none → permit s = false) ∧
    (∀ l (p1 p2 p3 : Bool), s.cfg.lines = some l → s.pins.p1 = p1 → s.pins.p2 = p2 → s.pins.p3 = p3 →
      permit s = l.permits.getD ((if p1 then 1 else 0) + (if p2 then 2 else 0) + (if p3 then 4 else 0)) false) ∧
    (let pins := setContact c a s.pins
     let now := permit { s with pins := pins }
     ((s.running = false ∨ permit s = now) → exec (.permitChange c a) s = .next { s with pins := pins }) ∧
     (s.running = true → permit s = true → now = false → s.cycle.state = .pouring →
       ∃ t, exec (.permitChange c a) s = .next t ∧ t.cycle.state = .paused ∧ t.feed.mode = .shut ∧ gateCode t = 0 ∧
         hasFlag .paused t ∧ t.pins = pins ∧ t.claim = s.claim ∧ t.scale = s.scale ∧ t.plan = s.plan ∧
         t.travel = s.travel ∧ t.spout = s.spout ∧ setupKept s t) ∧
     (s.running = true → permit s = false → now = true → s.cycle.state = .paused → s.claim.trim = false →
       nearTripStands s = false →
       ∃ t, exec (.permitChange c a) s = .next t ∧ t.pins = pins ∧
         (t.cycle.state = .pouring ∨ t.cycle.state = .settling ∨
           t.cycle.state = .halted ∧ HaltCause.beltStall ∈ t.cycle.causes) ∧
         (s.scale.pourOpen = true → entersPour s.scale.openGrams { s with pins := pins } t) ∧
         t.claim.own = s.claim.own ∧ t.scale = s.scale ∧ t.plan = s.plan ∧ setupKept s t) ∧
     (s.running = true → s.cycle.state = .idle → s.scale.pourOpen = false →
       exec (.permitChange c a) s = .next { s with pins := pins }))

/-- R160: the attendance lapse clears the auto flag and halts the station with HOST_LAPSE. R166: the settle's expiry
makes the closing request with its outcome, sets the ending marker and, outside HALTED, raises the spout and withdraws.
That an expiry is nothing while its timer stands still or has not reached its time is the model's choice (logs 4, 5). -/
def Obligations.AttendanceAndSettle : Prop :=
  ∀ (s : State),
    (s.cycle.state ≠ .idle → reached s.cycle.attendMs (attendLimit s) = true →
      ∃ t, exec .attendanceLapse s = .next t ∧ t.cycle.auto = false ∧ t.cycle.attendMs = none ∧
        t.cycle.state = .halted ∧ HaltCause.hostLapse ∈ t.cycle.causes ∧
        (s.cycle.state ≠ .halted → t.cycle.haltCause = some .hostLapse ∧ t.cycle.lapseAnswered = false ∧
          t.feed.mode = .shut ∧ hasFlag .halted t) ∧
        t.scale = s.scale ∧ t.plan = s.plan ∧ setupKept s t) ∧
    ((s.cycle.state = .idle ∨ reached s.cycle.attendMs (attendLimit s) = false) → exec .attendanceLapse s = .next s) ∧
    (∀ o, s.running = true → reached s.cycle.settleMs (settleLimit s) = true → s.cycle.settleOutcome = some o →
      (s.scale.pourOpen = true ∨ s.scale.pendingOpen = true) →
      ∃ t, exec .settleExpiry s = .next t ∧ t.cycle.settleMs = none ∧ t.cycle.settleOutcome = none ∧
        t.cycle.ending = true ∧
        (s.scale.pendingClose = none → o = .done → t.scale = { s.scale with pendingClose := some .done }) ∧
        (s.scale.pendingClose = none → o = .withdrawn → t.scale = { s.scale with pendingClose := some .withdrawn }) ∧
        (s.scale.pendingClose ≠ none → t.scale = s.scale) ∧
        (s.cycle.state = .halted → t.cycle.state = .halted ∧ t.spout = s.spout ∧ t.travel = s.travel) ∧
        (s.cycle.state ≠ .halted → t.cycle.state = .withdrawing ∧
          ((s.spout.state = .lowered ∨ s.spout.state = .lowering) → t.spout.state = .raising)) ∧
        t.claim = s.claim ∧ t.plan = s.plan ∧ setupKept s t) ∧
    ((s.running = false ∨ reached s.cycle.settleMs (settleLimit s) = false) → exec .settleExpiry s = .next s)

/-- R174, R118, R119, R120: a beacon tick hands over the BEACON with the figures as they stand, field by field; an own CLOSE
that was dropped is handed over again at every one, the claim staying CLOSING (R129), and a WAITING move repeats its
reservation check (R145); a selection attempt that is due takes as its result the first station condition that fails,
agreement, DEGRADED, dust, reference and bill slots in this order; with every condition met the first tranche in list order that is a candidate, by the first five conditions of R121
with the window of R104, and passes the trim check is claimed: PENDING, the slot reserved, the CLAIM handed over, the cycle in
CLAIMING (R122, R162), and without one the result is NONE_ELIGIBLE. The slot reserved raises BILL_LOW where the free slots
fall to 4 and BILL_FULL where they fall to 0 (R177, R184). A jam or travel fault at the entry to CLAIMING halts the station,
the CLAIM dropped at once or not; dropped without one it ends the claim (R76, R126). The trim check is the moments' (R132,
R133), exact while the masses are in range. The order of the acts at a beacon tick is the model's choice (log 9), and so is that of a
claim (log 37), that before RUN a tick does nothing (log 4), and that of a jam and a travel fault standing at the entry to
CLAIMING the jam is the one cause raised (log 49). -/
def Obligations.BeaconTick : Prop :=
  ∀ (s : State),
    (s.running = false → exec .beaconTick s = .next s ∧ exec .moveHoldExpiry s = .next s) ∧
    (s.running = true →
      ∃ t, exec .beaconTick s = .next t ∧
        (s.qli.clash = false → s.qli.queue.length ≤ 2 → isQueued (beaconFrame s) t) ∧
        (∀ r f, s.claim.state = .closing → s.claim.own = some r → r.resend = true → r.closeFrame = some f →
          s.qli.clash = false → s.qli.queue.length ≤ 3 → isQueued f t ∧ t.claim = s.claim) ∧
        (∀ g, s.travel.state = .waiting → s.travel.target = some g → attemptDue s = false → rechecked g 3 s t) ∧
        (∀ r, attemptDue s = true → stationCondition s = some r →
          t.claim.selection = some r ∧ t.claim.state = .none ∧ t.cycle = s.cycle) ∧
        (s.claim.state = .none → t.claim.state = .pending →
          s.cycle.auto = true ∧ s.cycle.state = .idle ∧ s.plan.state = .ready ∧ stationCondition s = none ∧
          ∃ u ∈ s.plan.tranches, candidate s u = true ∧ trimPasses s u = true ∧
            t.claim.selection = some (.chosen u.id)) ∧
        (∀ pre u post h, attemptDue s = true → stationCondition s = none → s.bills.reserved = false →
          s.plan.header = some h → s.plan.tranches = pre ++ u :: post →
          (∀ v ∈ pre, candidate s v = true → trimPasses s v = false) → candidate s u = true → trimPasses s u = true →
          t.claim.selection = some (.chosen u.id) ∧ t.claim.mProj = some (momentProj s u) ∧
          (32 - s.bills.stored.length = 5 → hasFlag .billLow t) ∧
          (32 - s.bills.stored.length = 1 → hasFlag .billFull t) ∧
          (s.qli.clash = false → s.qli.queue.length ≤ 4 → s.spout.state ≠ .jammed → s.travel.state ≠ .faulted →
            t.claim.state = .pending ∧ t.claim.own = some
              { plan := h.number, tranche := u.id, hold := u.hold, seq := u.seq + 1, withdrawMark := false,
                poured := false, endRequest := none, closedKg := none, closeFrame := none, resend := false } ∧
            t.bills.reserved = true ∧ isQueued (.claim h.number u.id (u.seq + 1) u.hold) t ∧
            t.cycle.state = .claiming ∧
            ∀ l, s.cfg.lines = some l → t.cycle.attendMs = if l.attendance = 0 then none else some 0) ∧
          ((∀ e ∈ s.qli.queue, e.frame.isClaim = false) → s.bills.identity = none →
            (∀ j, s.spout.state = .jammed → s.spout.jam = some j →
              t.cycle.state = .halted ∧ t.cycle.causes = [jamHalt j] ∧ t.claim.state = .none ∧
              t.bills.reserved = false ∧ hasFlag .claimLost t) ∧
            (s.spout.state ≠ .jammed → s.travel.state = .faulted →
              t.cycle.state = .halted ∧ t.cycle.causes = [.travelFault] ∧ t.claim.state = .none ∧
              t.bills.reserved = false ∧ hasFlag .claimLost t) ∧
            (s.qli.queue.length = 6 → (∀ e ∈ s.qli.queue, e.frame.cls ≤ 2) → s.spout.state ≠ .jammed →
              s.travel.state ≠ .faulted →
              t.cycle.state = .idle ∧ t.claim.state = .none ∧ t.bills.reserved = false ∧ hasFlag .claimLost t))) ∧
        (attemptDue s = true → stationCondition s = none →
          (∀ v ∈ s.plan.tranches, candidate s v = true → trimPasses s v = false) →
          t.claim.selection = some .noneEligible ∧ t.claim.state = .none ∧ t.cycle = s.cycle) ∧
        t.plan = s.plan ∧ t.scale = s.scale ∧ t.travel.count = s.travel.count ∧ setupKept s t) ∧
    isBeacon (beaconFrame s) s ∧
    (s.bills.reserved = false → s.bills.stored.length < 32 →
      let free := 32 - s.bills.stored.length
      freeSlots s = free ∧ freeSlots (reserveSlot s) = free - 1 ∧
      (hasFlag .billLow (reserveSlot s) ↔ hasFlag .billLow s ∨ 5 ≤ free ∧ free - 1 ≤ 4) ∧
      (hasFlag .billFull (reserveSlot s) ↔ hasFlag .billFull s ∨ free - 1 = 0)) ∧
    (let agrees : Prop := ownPlanId s ≠ none ∧ ∀ p ∈ s.peers, p.mismatch = false
     let dusty : Prop := s.dust.exposure = .high ∨ s.dust.exposure = .nearTrip ∨ s.dust.exposure = .trip ∨
       ∃ k, k < 4 ∧ headEnabled s k = true ∧ (headAt s k).latch = true
     let full : Prop := 32 ≤ s.bills.stored.length + (if s.bills.reserved = true then 1 else 0)
     (¬ agrees → stationCondition s = some .notAgreed) ∧
     (agrees → s.qli.degraded = true → stationCondition s = some .degraded) ∧
     (agrees → s.qli.degraded = false → dusty → stationCondition s = some .dust) ∧
     (agrees → s.qli.degraded = false → ¬ dusty → s.travel.referenced = false →
       stationCondition s = some .unreferenced) ∧
     (agrees → s.qli.degraded = false → ¬ dusty → s.travel.referenced = true → full →
       stationCondition s = some .billFull) ∧
     (agrees → s.qli.degraded = false → ¬ dusty → s.travel.referenced = true → ¬ full → stationCondition s = none)) ∧
    (∀ u, candidate s u = true ↔
      u.phase = .vacant ∧ u.seq < 255 ∧
      (u.pred = 0 ∨ ∃ v, findTranche s u.pred = some v ∧ v.phase = .done) ∧
      (∀ v ∈ s.plan.tranches, v.hold = u.hold → claimant v = none) ∧
      ∃ x free, findHold s u.hold = some x ∧ freeStretch s = some free ∧
        let reach := x.half - (rail s).clearance
        let lo := hatchCentre s x - reach
        let hi := min 65535 (hatchCentre s x + reach)
        0 < reach ∧ (rail s).arrivalTol + (rail s).clearance ≤ x.half ∧
        (rail s).railMin + (rail s).half ≤ lo ∧ hi + (rail s).half ≤ (rail s).railMax ∧ free.lo ≤ lo ∧ hi ≤ free.hi) ∧
    (∀ u h x, s.claim.state = .none → s.plan.header = some h → findHold s u.hold = some x → u.phase = .vacant →
      (let live (v : Tranche) : Nat := (boardLive v).getD 0
       let left (v : Tranche) : Int := ((v.target - v.settled - live v : Nat) : Int)
       let massOn (n : Nat) : Int :=
         ((s.plan.tranches.filter (fun v => v.hold == n)).map (fun v => ((v.settled + live v : Nat) : Int))).sum
       let leverOn (n : Nat) : Int := match findHold s n with
         | some y => y.lever
         | none => 0
       let commit : Int := (s.plan.holds.map (fun y => y.lever * massOn y.number)).sum +
         ((s.plan.tranches.filter (fun v => (claimant v).isSome)).map (fun v => left v * leverOn v.hold)).sum
       let proj : Int := commit + left u * x.lever
       (s.plan.holds.map (fun y => y.number)).Nodup → (∀ y ∈ s.plan.holds, y.lever.natAbs ≤ 2000) →
       (s.plan.tranches.map (fun v => v.target + v.settled + live v)).sum + u.target ≤ 2 ^ 36 →
       momentProj s u = proj ∧
         (trimPasses s u = true ↔ proj.natAbs ≤ h.trimLimit ∨ proj.natAbs ≤ commit.natAbs)))

/-! ### Bills -/

/-- R185: READ BILL before RUN is NOT_RUNNING, without a stored bill BILL_EMPTY; otherwise it takes the oldest stored bill
from the head of the log and answers it whole, in the pour entry of R198, with the number still stored, nothing else changes,
and the free count rises by one. -/
def Obligations.BillRead : Prop :=
  ∀ (rest : List Byte) (s : State), frames [] rest →
    (s.running = false → exec (.readBill rest) s = .next (answered 28 rest (refuse .notRunning) s)) ∧
    (s.running = true → s.bills.stored = [] →
      exec (.readBill rest) s = .next (answered 28 rest (refuse .billEmpty) s)) ∧
    (∀ b older, s.running = true → s.bills.stored = b :: older →
      exec (.readBill rest) s = .next (answered 28 rest (done (billBytes b older.length))
        { s with bills := { s.bills with stored := older } }) ∧
      (billBytes b older.length).length = 34 ∧
      isPourEntry b older.length (billBytes b older.length) ∧
      (billBytes b older.length).drop 33 = le 1 older.length ∧
      (s.bills.stored.length + (if s.bills.reserved then 1 else 0) ≤ 32 →
        freeSlots { s with bills := { s.bills with stored := older } } = freeSlots s + 1))

/-! ### The laws of the whole machine -/

/-- Every law below holds of the part as it stands after reset. -/
def Obligations.LawsHoldAtReset : Prop :=
  ∀ (straps : Straps) (pins : Pins),
    AccountLaw (.afterReset straps pins) ∧ QueueLaw (.afterReset straps pins) ∧ BoardLaw (.afterReset straps pins) ∧
    CeilingLaw (.afterReset straps pins) ∧ AutoLaw (.afterReset straps pins) ∧ DriveLaw (.afterReset straps pins) ∧
    AccountLaw State.reset ∧ QueueLaw State.reset ∧ BoardLaw State.reset ∧ CeilingLaw State.reset ∧
    AutoLaw State.reset ∧ DriveLaw State.reset

/-- R14: every step keeps the account of the scale total. -/
def Obligations.AccountKept : Prop := ∀ (s t : State), AccountLaw s → step s = .next t → AccountLaw t

/-- R74 to R76: every step keeps the bounds, the order and the uniqueness of the transmit queue. -/
def Obligations.QueueKept : Prop := ∀ (s t : State), QueueLaw s → step s = .next t → QueueLaw t

/-- R100, R105, R107, R114: every step keeps the ids distinct and within 1 to 24, the note cursor at most 24, one CLAIMED
tranche to a hold and one claim to a station. -/
def Obligations.BoardKept : Prop := ∀ (s t : State), BoardLaw s → step s = .next t → BoardLaw t

/-- R30, R31: every step keeps the control value at or below the effective ceiling while the feed regulates. -/
def Obligations.CeilingKept : Prop := ∀ (s t : State), CeilingLaw s → step s = .next t → CeilingLaw t

/-- R149, R150, R153, R167: every step keeps the spout up while a move is wanted or runs, the drive off outside a move, a hold
to a move in MOVING or CREEPING, and WITHDRAWING without a move. -/
def Obligations.DriveKept : Prop := ∀ (s t : State), DriveLaw s → step s = .next t → DriveLaw t

/-- R105: no step takes a sequence number or settled kilograms of a tranche back, or a DONE tranche out of DONE, unless
the plan goes. -/
def Obligations.BoardNeverGoesBack : Prop :=
  ∀ (s t : State), BoardLaw s → (∀ u ∈ s.plan.tranches, u.settled ≤ 4294967295) → step s = .next t →
    t.plan.tranches = [] ∨
    ∀ u ∈ s.plan.tranches, ∃ v ∈ t.plan.tranches, v.id = u.id ∧ v.hold = u.hold ∧ v.target = u.target ∧
      u.seq ≤ v.seq ∧ u.settled ≤ v.settled ∧ (u.phase = .done → v.phase = .done)
end

