-- ==== Sys2Proof/Laws/Blocks.lean ====
section
/-! SUPPORT. Frame lemmas: what each shared operation of the blocks (Flags, Ops, DustCore, FeedCore, QueueCore, Notices) leaves unchanged.
Each `<op>_frame` is one conjunction, so that simp rewrites with every part of it and no caller unfolds the operation. -/

namespace Sys2Proof.Machine

@[simp] theorem raise_frame (e : Event) (s : State) :
    (raise e s).pending = s.pending ∧ (raise e s).running = s.running ∧ (raise e s).station = s.station ∧
    (raise e s).seconds = s.seconds ∧ (raise e s).base = s.base ∧ (raise e s).freeIx = s.freeIx ∧
    (raise e s).pins = s.pins ∧ (raise e s).cfg = s.cfg ∧ (raise e s).link.buf = s.link.buf ∧
    (raise e s).link.miso = s.link.miso ∧ (raise e s).link.enables = s.link.enables ∧ (raise e s).conv = s.conv ∧
    (raise e s).scale = s.scale ∧ (raise e s).feed = s.feed ∧ (raise e s).dust = s.dust ∧ (raise e s).qli = s.qli ∧
    (raise e s).peers = s.peers ∧ (raise e s).plan = s.plan ∧ (raise e s).claim = s.claim ∧
    (raise e s).travel = s.travel ∧ (raise e s).spout = s.spout ∧ (raise e s).cycle = s.cycle ∧
    (raise e s).bills = s.bills := by
  unfold raise; try dsimp only
  repeat' split
  all_goals (repeat' apply And.intro) <;> first | (simp; done) | rfl

@[simp] theorem raiseIf_frame (c : Bool) (e : Event) (s : State) :
    (raiseIf c e s).pending = s.pending ∧ (raiseIf c e s).running = s.running ∧
    (raiseIf c e s).station = s.station ∧ (raiseIf c e s).seconds = s.seconds ∧ (raiseIf c e s).base = s.base ∧
    (raiseIf c e s).freeIx = s.freeIx ∧ (raiseIf c e s).pins = s.pins ∧ (raiseIf c e s).cfg = s.cfg ∧
    (raiseIf c e s).link.buf = s.link.buf ∧ (raiseIf c e s).link.miso = s.link.miso ∧
    (raiseIf c e s).link.enables = s.link.enables ∧ (raiseIf c e s).conv = s.conv ∧
    (raiseIf c e s).scale = s.scale ∧ (raiseIf c e s).feed = s.feed ∧ (raiseIf c e s).dust = s.dust ∧
    (raiseIf c e s).qli = s.qli ∧ (raiseIf c e s).peers = s.peers ∧ (raiseIf c e s).plan = s.plan ∧
    (raiseIf c e s).claim = s.claim ∧ (raiseIf c e s).travel = s.travel ∧ (raiseIf c e s).spout = s.spout ∧
    (raiseIf c e s).cycle = s.cycle ∧ (raiseIf c e s).bills = s.bills := by
  unfold raiseIf; try dsimp only
  repeat' split
  all_goals (repeat' apply And.intro) <;> first | (simp; done) | rfl

@[simp] theorem grant_frame (s : State) :
    (grant s).pending = s.pending ∧ (grant s).running = s.running ∧ (grant s).station = s.station ∧
    (grant s).seconds = s.seconds ∧ (grant s).base = s.base ∧ (grant s).freeIx = s.freeIx ∧
    (grant s).pins = s.pins ∧ (grant s).cfg = s.cfg ∧ (grant s).link = s.link ∧ (grant s).scale = s.scale ∧
    (grant s).feed = s.feed ∧ (grant s).dust = s.dust ∧ (grant s).qli = s.qli ∧ (grant s).peers = s.peers ∧
    (grant s).plan = s.plan ∧ (grant s).claim = s.claim ∧ (grant s).travel = s.travel ∧ (grant s).spout = s.spout ∧
    (grant s).cycle = s.cycle ∧ (grant s).bills = s.bills := by
  unfold grant; try dsimp only
  repeat' split
  all_goals (repeat' apply And.intro) <;> first | (simp; done) | rfl

@[simp] theorem requestConversions_frame (is : List AdcInput) (s : State) :
    (requestConversions is s).pending = s.pending ∧ (requestConversions is s).running = s.running ∧
    (requestConversions is s).station = s.station ∧ (requestConversions is s).seconds = s.seconds ∧
    (requestConversions is s).base = s.base ∧ (requestConversions is s).freeIx = s.freeIx ∧
    (requestConversions is s).pins = s.pins ∧ (requestConversions is s).cfg = s.cfg ∧
    (requestConversions is s).link = s.link ∧ (requestConversions is s).scale = s.scale ∧
    (requestConversions is s).feed = s.feed ∧ (requestConversions is s).dust = s.dust ∧
    (requestConversions is s).qli = s.qli ∧ (requestConversions is s).peers = s.peers ∧
    (requestConversions is s).plan = s.plan ∧ (requestConversions is s).claim = s.claim ∧
    (requestConversions is s).travel = s.travel ∧ (requestConversions is s).spout = s.spout ∧
    (requestConversions is s).cycle = s.cycle ∧ (requestConversions is s).bills = s.bills := by
  unfold requestConversions; try dsimp only
  repeat' split
  all_goals (repeat' apply And.intro) <;> first | (simp; done) | rfl

@[simp] theorem deliver_frame (i : AdcInput) (s : State) :
    (deliver i s).pending = s.pending ∧ (deliver i s).running = s.running ∧ (deliver i s).station = s.station ∧
    (deliver i s).seconds = s.seconds ∧ (deliver i s).base = s.base ∧ (deliver i s).freeIx = s.freeIx ∧
    (deliver i s).pins = s.pins ∧ (deliver i s).cfg = s.cfg ∧ (deliver i s).link = s.link ∧
    (deliver i s).scale = s.scale ∧ (deliver i s).feed = s.feed ∧ (deliver i s).dust = s.dust ∧
    (deliver i s).qli = s.qli ∧ (deliver i s).peers = s.peers ∧ (deliver i s).plan = s.plan ∧
    (deliver i s).claim = s.claim ∧ (deliver i s).travel = s.travel ∧ (deliver i s).spout = s.spout ∧
    (deliver i s).cycle = s.cycle ∧ (deliver i s).bills = s.bills := by
  unfold deliver; try dsimp only
  repeat' split
  all_goals (repeat' apply And.intro) <;> first | (simp; done) | rfl

@[simp] theorem requestOpening_frame (s : State) :
    (requestOpening s).pending = s.pending ∧ (requestOpening s).running = s.running ∧
    (requestOpening s).station = s.station ∧ (requestOpening s).seconds = s.seconds ∧
    (requestOpening s).base = s.base ∧ (requestOpening s).freeIx = s.freeIx ∧ (requestOpening s).pins = s.pins ∧
    (requestOpening s).cfg = s.cfg ∧ (requestOpening s).link = s.link ∧ (requestOpening s).conv = s.conv ∧
    (requestOpening s).scale.total = s.scale.total ∧ (requestOpening s).scale.stray = s.scale.stray ∧
    (requestOpening s).scale.closed = s.scale.closed ∧ (requestOpening s).scale.openGrams = s.scale.openGrams ∧
    (requestOpening s).scale.pourOpen = s.scale.pourOpen ∧ (requestOpening s).scale.saturated = s.scale.saturated ∧
    (requestOpening s).scale.calRunning = s.scale.calRunning ∧
    (requestOpening s).scale.snapshot = s.scale.snapshot ∧ (requestOpening s).feed = s.feed ∧
    (requestOpening s).dust = s.dust ∧ (requestOpening s).qli = s.qli ∧ (requestOpening s).peers = s.peers ∧
    (requestOpening s).plan = s.plan ∧ (requestOpening s).claim = s.claim ∧ (requestOpening s).travel = s.travel ∧
    (requestOpening s).spout = s.spout ∧ (requestOpening s).cycle = s.cycle ∧ (requestOpening s).bills = s.bills := by
  unfold requestOpening; try dsimp only
  repeat' split
  all_goals (repeat' apply And.intro) <;> first | (simp; done) | rfl

@[simp] theorem requestClosing_frame (o : PourOutcome) (s : State) :
    (requestClosing o s).pending = s.pending ∧ (requestClosing o s).running = s.running ∧
    (requestClosing o s).station = s.station ∧ (requestClosing o s).seconds = s.seconds ∧
    (requestClosing o s).base = s.base ∧ (requestClosing o s).freeIx = s.freeIx ∧
    (requestClosing o s).pins = s.pins ∧ (requestClosing o s).cfg = s.cfg ∧ (requestClosing o s).link = s.link ∧
    (requestClosing o s).conv = s.conv ∧ (requestClosing o s).scale.total = s.scale.total ∧
    (requestClosing o s).scale.stray = s.scale.stray ∧ (requestClosing o s).scale.closed = s.scale.closed ∧
    (requestClosing o s).scale.openGrams = s.scale.openGrams ∧
    (requestClosing o s).scale.pourOpen = s.scale.pourOpen ∧
    (requestClosing o s).scale.saturated = s.scale.saturated ∧
    (requestClosing o s).scale.calRunning = s.scale.calRunning ∧
    (requestClosing o s).scale.snapshot = s.scale.snapshot ∧ (requestClosing o s).feed = s.feed ∧
    (requestClosing o s).dust = s.dust ∧ (requestClosing o s).qli = s.qli ∧ (requestClosing o s).peers = s.peers ∧
    (requestClosing o s).plan = s.plan ∧ (requestClosing o s).claim = s.claim ∧
    (requestClosing o s).travel = s.travel ∧ (requestClosing o s).spout = s.spout ∧
    (requestClosing o s).cycle = s.cycle ∧ (requestClosing o s).bills = s.bills := by
  unfold requestClosing; try dsimp only
  repeat' split
  all_goals (repeat' apply And.intro) <;> first | (simp; done) | rfl

@[simp] theorem reserveSlot_frame (s : State) :
    (reserveSlot s).pending = s.pending ∧ (reserveSlot s).running = s.running ∧
    (reserveSlot s).station = s.station ∧ (reserveSlot s).seconds = s.seconds ∧ (reserveSlot s).base = s.base ∧
    (reserveSlot s).freeIx = s.freeIx ∧ (reserveSlot s).pins = s.pins ∧ (reserveSlot s).cfg = s.cfg ∧
    (reserveSlot s).link.buf = s.link.buf ∧ (reserveSlot s).link.miso = s.link.miso ∧
    (reserveSlot s).link.enables = s.link.enables ∧ (reserveSlot s).conv = s.conv ∧
    (reserveSlot s).scale = s.scale ∧ (reserveSlot s).feed = s.feed ∧ (reserveSlot s).dust = s.dust ∧
    (reserveSlot s).qli = s.qli ∧ (reserveSlot s).peers = s.peers ∧ (reserveSlot s).plan = s.plan ∧
    (reserveSlot s).claim = s.claim ∧ (reserveSlot s).travel = s.travel ∧ (reserveSlot s).spout = s.spout ∧
    (reserveSlot s).cycle = s.cycle ∧ (reserveSlot s).bills.stored = s.bills.stored ∧
    (reserveSlot s).bills.totals = s.bills.totals ∧ (reserveSlot s).bills.seq = s.bills.seq ∧
    (reserveSlot s).bills.entries = s.bills.entries ∧ (reserveSlot s).bills.summary = s.bills.summary ∧
    (reserveSlot s).bills.openedAt = s.bills.openedAt := by
  unfold reserveSlot; try dsimp only
  repeat' split
  all_goals (repeat' apply And.intro) <;> first | (simp; done) | rfl

@[simp] theorem releaseSlot_frame (s : State) :
    (releaseSlot s).pending = s.pending ∧ (releaseSlot s).running = s.running ∧
    (releaseSlot s).station = s.station ∧ (releaseSlot s).seconds = s.seconds ∧ (releaseSlot s).base = s.base ∧
    (releaseSlot s).freeIx = s.freeIx ∧ (releaseSlot s).pins = s.pins ∧ (releaseSlot s).cfg = s.cfg ∧
    (releaseSlot s).link = s.link ∧ (releaseSlot s).conv = s.conv ∧ (releaseSlot s).scale = s.scale ∧
    (releaseSlot s).feed = s.feed ∧ (releaseSlot s).dust = s.dust ∧ (releaseSlot s).qli = s.qli ∧
    (releaseSlot s).peers = s.peers ∧ (releaseSlot s).plan = s.plan ∧ (releaseSlot s).claim = s.claim ∧
    (releaseSlot s).travel = s.travel ∧ (releaseSlot s).spout = s.spout ∧ (releaseSlot s).cycle = s.cycle ∧
    (releaseSlot s).bills.stored = s.bills.stored ∧ (releaseSlot s).bills.totals = s.bills.totals ∧
    (releaseSlot s).bills.seq = s.bills.seq ∧ (releaseSlot s).bills.entries = s.bills.entries ∧
    (releaseSlot s).bills.summary = s.bills.summary ∧ (releaseSlot s).bills.openedAt = s.bills.openedAt := by
  unfold releaseSlot; try dsimp only
  repeat' split
  all_goals (repeat' apply And.intro) <;> first | (simp; done) | rfl

@[simp] theorem copyIdentity_frame (r : ClaimRec) (s : State) :
    (copyIdentity r s).pending = s.pending ∧ (copyIdentity r s).running = s.running ∧
    (copyIdentity r s).station = s.station ∧ (copyIdentity r s).seconds = s.seconds ∧
    (copyIdentity r s).base = s.base ∧ (copyIdentity r s).freeIx = s.freeIx ∧ (copyIdentity r s).pins = s.pins ∧
    (copyIdentity r s).cfg = s.cfg ∧ (copyIdentity r s).link = s.link ∧ (copyIdentity r s).conv = s.conv ∧
    (copyIdentity r s).scale = s.scale ∧ (copyIdentity r s).feed = s.feed ∧ (copyIdentity r s).dust = s.dust ∧
    (copyIdentity r s).qli = s.qli ∧ (copyIdentity r s).peers = s.peers ∧ (copyIdentity r s).plan = s.plan ∧
    (copyIdentity r s).claim = s.claim ∧ (copyIdentity r s).travel = s.travel ∧ (copyIdentity r s).spout = s.spout ∧
    (copyIdentity r s).cycle = s.cycle ∧ (copyIdentity r s).bills.stored = s.bills.stored ∧
    (copyIdentity r s).bills.totals = s.bills.totals ∧ (copyIdentity r s).bills.seq = s.bills.seq ∧
    (copyIdentity r s).bills.entries = s.bills.entries ∧ (copyIdentity r s).bills.summary = s.bills.summary ∧
    (copyIdentity r s).bills.openedAt = s.bills.openedAt := by
  unfold copyIdentity; try dsimp only
  repeat' split
  all_goals (repeat' apply And.intro) <;> first | (simp; done) | rfl

@[simp] theorem raiseSpout_frame (s : State) :
    (raiseSpout s).pending = s.pending ∧ (raiseSpout s).running = s.running ∧ (raiseSpout s).station = s.station ∧
    (raiseSpout s).seconds = s.seconds ∧ (raiseSpout s).base = s.base ∧ (raiseSpout s).freeIx = s.freeIx ∧
    (raiseSpout s).pins = s.pins ∧ (raiseSpout s).cfg = s.cfg ∧ (raiseSpout s).link = s.link ∧
    (raiseSpout s).conv = s.conv ∧ (raiseSpout s).scale = s.scale ∧ (raiseSpout s).feed = s.feed ∧
    (raiseSpout s).dust = s.dust ∧ (raiseSpout s).qli = s.qli ∧ (raiseSpout s).peers = s.peers ∧
    (raiseSpout s).plan = s.plan ∧ (raiseSpout s).claim = s.claim ∧ (raiseSpout s).travel = s.travel ∧
    (raiseSpout s).cycle = s.cycle ∧ (raiseSpout s).bills = s.bills := by
  unfold raiseSpout; try dsimp only
  repeat' split
  all_goals (repeat' apply And.intro) <;> first | (simp; done) | rfl

@[simp] theorem lowerSpout_frame (s : State) :
    (lowerSpout s).pending = s.pending ∧ (lowerSpout s).running = s.running ∧ (lowerSpout s).station = s.station ∧
    (lowerSpout s).seconds = s.seconds ∧ (lowerSpout s).base = s.base ∧ (lowerSpout s).freeIx = s.freeIx ∧
    (lowerSpout s).pins = s.pins ∧ (lowerSpout s).cfg = s.cfg ∧ (lowerSpout s).link = s.link ∧
    (lowerSpout s).conv = s.conv ∧ (lowerSpout s).scale = s.scale ∧ (lowerSpout s).feed = s.feed ∧
    (lowerSpout s).dust = s.dust ∧ (lowerSpout s).qli = s.qli ∧ (lowerSpout s).peers = s.peers ∧
    (lowerSpout s).plan = s.plan ∧ (lowerSpout s).claim = s.claim ∧ (lowerSpout s).travel = s.travel ∧
    (lowerSpout s).cycle = s.cycle ∧ (lowerSpout s).bills = s.bills := by
  unfold lowerSpout; try dsimp only
  repeat' split
  all_goals (repeat' apply And.intro) <;> first | (simp; done) | rfl

@[simp] theorem powerOn_frame (s : State) :
    (powerOn s).pending = s.pending ∧ (powerOn s).running = s.running ∧ (powerOn s).station = s.station ∧
    (powerOn s).seconds = s.seconds ∧ (powerOn s).base = s.base ∧ (powerOn s).freeIx = s.freeIx ∧
    (powerOn s).pins = s.pins ∧ (powerOn s).cfg = s.cfg ∧ (powerOn s).link = s.link ∧ (powerOn s).conv = s.conv ∧
    (powerOn s).scale = s.scale ∧ (powerOn s).feed = s.feed ∧ (powerOn s).dust.exposure = s.dust.exposure ∧
    (powerOn s).qli = s.qli ∧ (powerOn s).peers = s.peers ∧ (powerOn s).plan = s.plan ∧
    (powerOn s).claim = s.claim ∧ (powerOn s).travel = s.travel ∧ (powerOn s).spout = s.spout ∧
    (powerOn s).cycle = s.cycle ∧ (powerOn s).bills = s.bills := by
  unfold powerOn; try dsimp only
  repeat' split
  all_goals (repeat' apply And.intro) <;> first | (simp; done) | rfl

@[simp] theorem powerOffIdle_frame (s : State) :
    (powerOffIdle s).pending = s.pending ∧ (powerOffIdle s).running = s.running ∧
    (powerOffIdle s).station = s.station ∧ (powerOffIdle s).seconds = s.seconds ∧ (powerOffIdle s).base = s.base ∧
    (powerOffIdle s).freeIx = s.freeIx ∧ (powerOffIdle s).pins = s.pins ∧ (powerOffIdle s).cfg = s.cfg ∧
    (powerOffIdle s).link = s.link ∧ (powerOffIdle s).conv = s.conv ∧ (powerOffIdle s).scale = s.scale ∧
    (powerOffIdle s).feed = s.feed ∧ (powerOffIdle s).dust.exposure = s.dust.exposure ∧
    (powerOffIdle s).qli = s.qli ∧ (powerOffIdle s).peers = s.peers ∧ (powerOffIdle s).plan = s.plan ∧
    (powerOffIdle s).claim = s.claim ∧ (powerOffIdle s).travel = s.travel ∧ (powerOffIdle s).spout = s.spout ∧
    (powerOffIdle s).cycle = s.cycle ∧ (powerOffIdle s).bills = s.bills := by
  unfold powerOffIdle; try dsimp only
  repeat' split
  all_goals (repeat' apply And.intro) <;> first | (simp; done) | rfl

@[simp] theorem enterSleeping_frame (s : State) :
    (enterSleeping s).pending = s.pending ∧ (enterSleeping s).running = s.running ∧
    (enterSleeping s).station = s.station ∧ (enterSleeping s).seconds = s.seconds ∧
    (enterSleeping s).base = s.base ∧ (enterSleeping s).freeIx = s.freeIx ∧ (enterSleeping s).pins = s.pins ∧
    (enterSleeping s).cfg = s.cfg ∧ (enterSleeping s).link = s.link ∧ (enterSleeping s).conv = s.conv ∧
    (enterSleeping s).scale = s.scale ∧ (enterSleeping s).feed = s.feed ∧
    (enterSleeping s).dust.exposure = s.dust.exposure ∧ (enterSleeping s).qli = s.qli ∧
    (enterSleeping s).peers = s.peers ∧ (enterSleeping s).plan = s.plan ∧ (enterSleeping s).claim = s.claim ∧
    (enterSleeping s).travel = s.travel ∧ (enterSleeping s).spout = s.spout ∧ (enterSleeping s).cycle = s.cycle ∧
    (enterSleeping s).bills = s.bills := by
  unfold enterSleeping; try dsimp only
  repeat' split
  all_goals (repeat' apply And.intro) <;> first | (simp; done) | rfl

@[simp] theorem enterWaking_frame (s : State) :
    (enterWaking s).pending = s.pending ∧ (enterWaking s).running = s.running ∧
    (enterWaking s).station = s.station ∧ (enterWaking s).seconds = s.seconds ∧ (enterWaking s).base = s.base ∧
    (enterWaking s).freeIx = s.freeIx ∧ (enterWaking s).pins = s.pins ∧ (enterWaking s).cfg = s.cfg ∧
    (enterWaking s).link = s.link ∧ (enterWaking s).conv = s.conv ∧ (enterWaking s).scale = s.scale ∧
    (enterWaking s).feed = s.feed ∧ (enterWaking s).dust.exposure = s.dust.exposure ∧ (enterWaking s).qli = s.qli ∧
    (enterWaking s).peers = s.peers ∧ (enterWaking s).plan = s.plan ∧ (enterWaking s).claim = s.claim ∧
    (enterWaking s).travel = s.travel ∧ (enterWaking s).spout = s.spout ∧ (enterWaking s).cycle = s.cycle ∧
    (enterWaking s).bills = s.bills := by
  unfold enterWaking; try dsimp only
  repeat' split
  all_goals (repeat' apply And.intro) <;> first | (simp; done) | rfl

@[simp] theorem enterWarming_frame (warm : Nat) (s : State) :
    (enterWarming warm s).pending = s.pending ∧ (enterWarming warm s).running = s.running ∧
    (enterWarming warm s).station = s.station ∧ (enterWarming warm s).seconds = s.seconds ∧
    (enterWarming warm s).base = s.base ∧ (enterWarming warm s).freeIx = s.freeIx ∧
    (enterWarming warm s).pins = s.pins ∧ (enterWarming warm s).cfg = s.cfg ∧ (enterWarming warm s).link = s.link ∧
    (enterWarming warm s).conv = s.conv ∧ (enterWarming warm s).scale = s.scale ∧
    (enterWarming warm s).feed = s.feed ∧ (enterWarming warm s).dust.exposure = s.dust.exposure ∧
    (enterWarming warm s).qli = s.qli ∧ (enterWarming warm s).peers = s.peers ∧
    (enterWarming warm s).plan = s.plan ∧ (enterWarming warm s).claim = s.claim ∧
    (enterWarming warm s).travel = s.travel ∧ (enterWarming warm s).spout = s.spout ∧
    (enterWarming warm s).cycle = s.cycle ∧ (enterWarming warm s).bills = s.bills := by
  unfold enterWarming; try dsimp only
  repeat' split
  all_goals (repeat' apply And.intro) <;> first | (simp; done) | rfl

@[simp] theorem enterDraining_frame (s : State) :
    (enterDraining s).pending = s.pending ∧ (enterDraining s).running = s.running ∧
    (enterDraining s).station = s.station ∧ (enterDraining s).seconds = s.seconds ∧
    (enterDraining s).base = s.base ∧ (enterDraining s).freeIx = s.freeIx ∧ (enterDraining s).pins = s.pins ∧
    (enterDraining s).cfg = s.cfg ∧ (enterDraining s).link = s.link ∧ (enterDraining s).conv = s.conv ∧
    (enterDraining s).scale = s.scale ∧ (enterDraining s).feed = s.feed ∧
    (enterDraining s).dust.exposure = s.dust.exposure ∧ (enterDraining s).qli = s.qli ∧
    (enterDraining s).peers = s.peers ∧ (enterDraining s).plan = s.plan ∧ (enterDraining s).claim = s.claim ∧
    (enterDraining s).travel = s.travel ∧ (enterDraining s).spout = s.spout ∧ (enterDraining s).cycle = s.cycle ∧
    (enterDraining s).bills = s.bills := by
  unfold enterDraining; try dsimp only
  repeat' split
  all_goals (repeat' apply And.intro) <;> first | (simp; done) | rfl

@[simp] theorem continuousTest_frame (s : State) :
    (continuousTest s).pending = s.pending ∧ (continuousTest s).running = s.running ∧
    (continuousTest s).station = s.station ∧ (continuousTest s).seconds = s.seconds ∧
    (continuousTest s).base = s.base ∧ (continuousTest s).freeIx = s.freeIx ∧ (continuousTest s).pins = s.pins ∧
    (continuousTest s).cfg = s.cfg ∧ (continuousTest s).link = s.link ∧ (continuousTest s).conv = s.conv ∧
    (continuousTest s).scale = s.scale ∧ (continuousTest s).feed = s.feed ∧
    (continuousTest s).dust.exposure = s.dust.exposure ∧ (continuousTest s).qli = s.qli ∧
    (continuousTest s).peers = s.peers ∧ (continuousTest s).plan = s.plan ∧ (continuousTest s).claim = s.claim ∧
    (continuousTest s).travel = s.travel ∧ (continuousTest s).spout = s.spout ∧ (continuousTest s).cycle = s.cycle ∧
    (continuousTest s).bills = s.bills := by
  unfold continuousTest; try dsimp only
  repeat' split
  all_goals (repeat' apply And.intro) <;> first | (simp; done) | rfl

@[simp] theorem afterReading_frame (s : State) :
    (afterReading s).pending = s.pending ∧ (afterReading s).running = s.running ∧
    (afterReading s).station = s.station ∧ (afterReading s).seconds = s.seconds ∧ (afterReading s).base = s.base ∧
    (afterReading s).freeIx = s.freeIx ∧ (afterReading s).pins = s.pins ∧ (afterReading s).cfg = s.cfg ∧
    (afterReading s).link = s.link ∧ (afterReading s).conv = s.conv ∧ (afterReading s).scale = s.scale ∧
    (afterReading s).feed = s.feed ∧ (afterReading s).dust.exposure = s.dust.exposure ∧
    (afterReading s).qli = s.qli ∧ (afterReading s).peers = s.peers ∧ (afterReading s).plan = s.plan ∧
    (afterReading s).claim = s.claim ∧ (afterReading s).travel = s.travel ∧ (afterReading s).spout = s.spout ∧
    (afterReading s).cycle = s.cycle ∧ (afterReading s).bills = s.bills := by
  unfold afterReading; try dsimp only
  repeat' split
  all_goals (repeat' apply And.intro) <;> first | (simp; done) | rfl

@[simp] theorem processReading_frame (c : DustCfg) (k r : Nat) (s : State) :
    (processReading c k r s).pending = s.pending ∧ (processReading c k r s).running = s.running ∧
    (processReading c k r s).station = s.station ∧ (processReading c k r s).seconds = s.seconds ∧
    (processReading c k r s).base = s.base ∧ (processReading c k r s).freeIx = s.freeIx ∧
    (processReading c k r s).pins = s.pins ∧ (processReading c k r s).cfg = s.cfg ∧
    (processReading c k r s).link.buf = s.link.buf ∧ (processReading c k r s).link.miso = s.link.miso ∧
    (processReading c k r s).link.enables = s.link.enables ∧ (processReading c k r s).conv = s.conv ∧
    (processReading c k r s).scale = s.scale ∧ (processReading c k r s).feed = s.feed ∧
    (processReading c k r s).dust.exposure = s.dust.exposure ∧ (processReading c k r s).qli = s.qli ∧
    (processReading c k r s).peers = s.peers ∧ (processReading c k r s).plan = s.plan ∧
    (processReading c k r s).claim = s.claim ∧ (processReading c k r s).travel = s.travel ∧
    (processReading c k r s).spout = s.spout ∧ (processReading c k r s).cycle = s.cycle ∧
    (processReading c k r s).bills = s.bills := by
  unfold processReading; try dsimp only
  repeat' split
  all_goals (repeat' apply And.intro) <;> first | (simp; done) | rfl

@[simp] theorem clampFeed_frame (s : State) :
    (clampFeed s).pending = s.pending ∧ (clampFeed s).running = s.running ∧ (clampFeed s).station = s.station ∧
    (clampFeed s).seconds = s.seconds ∧ (clampFeed s).base = s.base ∧ (clampFeed s).freeIx = s.freeIx ∧
    (clampFeed s).pins = s.pins ∧ (clampFeed s).cfg = s.cfg ∧ (clampFeed s).link = s.link ∧
    (clampFeed s).conv = s.conv ∧ (clampFeed s).scale = s.scale ∧ (clampFeed s).dust = s.dust ∧
    (clampFeed s).qli = s.qli ∧ (clampFeed s).peers = s.peers ∧ (clampFeed s).plan = s.plan ∧
    (clampFeed s).claim = s.claim ∧ (clampFeed s).travel = s.travel ∧ (clampFeed s).spout = s.spout ∧
    (clampFeed s).cycle = s.cycle ∧ (clampFeed s).bills = s.bills ∧ (clampFeed s).feed.setpoint = s.feed.setpoint ∧
    (clampFeed s).feed.staged = s.feed.staged := by
  unfold clampFeed; try dsimp only
  repeat' split
  all_goals (repeat' apply And.intro) <;> first | (simp; done) | rfl

@[simp] theorem shutFeed_frame (s : State) :
    (shutFeed s).pending = s.pending ∧ (shutFeed s).running = s.running ∧ (shutFeed s).station = s.station ∧
    (shutFeed s).seconds = s.seconds ∧ (shutFeed s).base = s.base ∧ (shutFeed s).freeIx = s.freeIx ∧
    (shutFeed s).pins = s.pins ∧ (shutFeed s).cfg = s.cfg ∧ (shutFeed s).link = s.link ∧
    (shutFeed s).conv = s.conv ∧ (shutFeed s).scale = s.scale ∧ (shutFeed s).dust = s.dust ∧
    (shutFeed s).qli = s.qli ∧ (shutFeed s).peers = s.peers ∧ (shutFeed s).plan = s.plan ∧
    (shutFeed s).claim = s.claim ∧ (shutFeed s).travel = s.travel ∧ (shutFeed s).spout = s.spout ∧
    (shutFeed s).cycle = s.cycle ∧ (shutFeed s).bills = s.bills ∧ (shutFeed s).feed.setpoint = s.feed.setpoint ∧
    (shutFeed s).feed.staged = s.feed.staged := by
  unfold shutFeed; try dsimp only
  repeat' split
  all_goals (repeat' apply And.intro) <;> first | (simp; done) | rfl

@[simp] theorem endTests_frame (s : State) :
    (endTests s).1.pending = s.pending ∧ (endTests s).1.running = s.running ∧ (endTests s).1.station = s.station ∧
    (endTests s).1.seconds = s.seconds ∧ (endTests s).1.base = s.base ∧ (endTests s).1.freeIx = s.freeIx ∧
    (endTests s).1.pins = s.pins ∧ (endTests s).1.cfg = s.cfg ∧ (endTests s).1.link = s.link ∧
    (endTests s).1.conv = s.conv ∧ (endTests s).1.scale = s.scale ∧ (endTests s).1.dust = s.dust ∧
    (endTests s).1.qli = s.qli ∧ (endTests s).1.peers = s.peers ∧ (endTests s).1.plan = s.plan ∧
    (endTests s).1.claim = s.claim ∧ (endTests s).1.travel = s.travel ∧ (endTests s).1.spout = s.spout ∧
    (endTests s).1.cycle = s.cycle ∧ (endTests s).1.bills = s.bills ∧
    (endTests s).1.feed.setpoint = s.feed.setpoint ∧ (endTests s).1.feed.staged = s.feed.staged := by
  unfold endTests; try dsimp only
  repeat' split
  all_goals (repeat' apply And.intro) <;> first | (simp; done) | rfl

@[simp] theorem regulate_frame (share : Nat) (s : State) :
    (regulate share s).1.pending = s.pending ∧ (regulate share s).1.running = s.running ∧
    (regulate share s).1.station = s.station ∧ (regulate share s).1.seconds = s.seconds ∧
    (regulate share s).1.base = s.base ∧ (regulate share s).1.freeIx = s.freeIx ∧
    (regulate share s).1.pins = s.pins ∧ (regulate share s).1.cfg = s.cfg ∧ (regulate share s).1.link = s.link ∧
    (regulate share s).1.conv = s.conv ∧ (regulate share s).1.scale = s.scale ∧ (regulate share s).1.dust = s.dust ∧
    (regulate share s).1.qli = s.qli ∧ (regulate share s).1.peers = s.peers ∧ (regulate share s).1.plan = s.plan ∧
    (regulate share s).1.claim = s.claim ∧ (regulate share s).1.travel = s.travel ∧
    (regulate share s).1.spout = s.spout ∧ (regulate share s).1.cycle = s.cycle ∧
    (regulate share s).1.bills = s.bills ∧ (regulate share s).1.feed.setpoint = s.feed.setpoint ∧
    (regulate share s).1.feed.staged = s.feed.staged := by
  unfold regulate; try dsimp only
  repeat' split
  all_goals (repeat' apply And.intro) <;> first | (simp; done) | rfl

@[simp] theorem evaluateWindow_frame (s : State) :
    (evaluateWindow s).pending = s.pending ∧ (evaluateWindow s).running = s.running ∧
    (evaluateWindow s).station = s.station ∧ (evaluateWindow s).seconds = s.seconds ∧
    (evaluateWindow s).base = s.base ∧ (evaluateWindow s).freeIx = s.freeIx ∧ (evaluateWindow s).pins = s.pins ∧
    (evaluateWindow s).cfg = s.cfg ∧ (evaluateWindow s).link = s.link ∧ (evaluateWindow s).conv = s.conv ∧
    (evaluateWindow s).scale = s.scale ∧ (evaluateWindow s).dust = s.dust ∧ (evaluateWindow s).qli = s.qli ∧
    (evaluateWindow s).peers = s.peers ∧ (evaluateWindow s).plan = s.plan ∧ (evaluateWindow s).claim = s.claim ∧
    (evaluateWindow s).travel = s.travel ∧ (evaluateWindow s).spout = s.spout ∧ (evaluateWindow s).cycle = s.cycle ∧
    (evaluateWindow s).bills = s.bills := by
  unfold evaluateWindow; try dsimp only
  repeat' split
  all_goals (repeat' apply And.intro) <;> first | (simp; done) | rfl

@[simp] theorem feedGrams_frame (credited : Bool) (g : Nat) (s : State) :
    (feedGrams credited g s).pending = s.pending ∧ (feedGrams credited g s).running = s.running ∧
    (feedGrams credited g s).station = s.station ∧ (feedGrams credited g s).seconds = s.seconds ∧
    (feedGrams credited g s).base = s.base ∧ (feedGrams credited g s).freeIx = s.freeIx ∧
    (feedGrams credited g s).pins = s.pins ∧ (feedGrams credited g s).cfg = s.cfg ∧
    (feedGrams credited g s).link = s.link ∧ (feedGrams credited g s).conv = s.conv ∧
    (feedGrams credited g s).scale = s.scale ∧ (feedGrams credited g s).dust = s.dust ∧
    (feedGrams credited g s).qli = s.qli ∧ (feedGrams credited g s).peers = s.peers ∧
    (feedGrams credited g s).plan = s.plan ∧ (feedGrams credited g s).claim = s.claim ∧
    (feedGrams credited g s).travel = s.travel ∧ (feedGrams credited g s).spout = s.spout ∧
    (feedGrams credited g s).cycle = s.cycle ∧ (feedGrams credited g s).bills = s.bills ∧
    (feedGrams credited g s).feed.setpoint = s.feed.setpoint ∧ (feedGrams credited g s).feed.staged = s.feed.staged := by
  unfold feedGrams; try dsimp only
  repeat' split
  all_goals (repeat' apply And.intro) <;> first | (simp; done) | rfl

@[simp] theorem feedInterval_frame (credited : Bool) (g : Nat) (s : State) :
    (feedInterval credited g s).1.pending = s.pending ∧ (feedInterval credited g s).1.running = s.running ∧
    (feedInterval credited g s).1.station = s.station ∧ (feedInterval credited g s).1.seconds = s.seconds ∧
    (feedInterval credited g s).1.base = s.base ∧ (feedInterval credited g s).1.freeIx = s.freeIx ∧
    (feedInterval credited g s).1.pins = s.pins ∧ (feedInterval credited g s).1.cfg = s.cfg ∧
    (feedInterval credited g s).1.link = s.link ∧ (feedInterval credited g s).1.conv = s.conv ∧
    (feedInterval credited g s).1.scale = s.scale ∧ (feedInterval credited g s).1.dust = s.dust ∧
    (feedInterval credited g s).1.qli = s.qli ∧ (feedInterval credited g s).1.peers = s.peers ∧
    (feedInterval credited g s).1.plan = s.plan ∧ (feedInterval credited g s).1.claim = s.claim ∧
    (feedInterval credited g s).1.travel = s.travel ∧ (feedInterval credited g s).1.spout = s.spout ∧
    (feedInterval credited g s).1.cycle = s.cycle ∧ (feedInterval credited g s).1.bills = s.bills := by
  unfold feedInterval; try dsimp only
  repeat' split
  all_goals (repeat' apply And.intro) <;> first | (simp; done) | rfl

@[simp] theorem place_frame (f : Frame) (s : State) :
    (place f s).1.pending = s.pending ∧ (place f s).1.running = s.running ∧ (place f s).1.station = s.station ∧
    (place f s).1.seconds = s.seconds ∧ (place f s).1.base = s.base ∧ (place f s).1.freeIx = s.freeIx ∧
    (place f s).1.pins = s.pins ∧ (place f s).1.cfg = s.cfg ∧ (place f s).1.link = s.link ∧
    (place f s).1.conv = s.conv ∧ (place f s).1.scale = s.scale ∧ (place f s).1.feed = s.feed ∧
    (place f s).1.dust = s.dust ∧ (place f s).1.qli.clash = s.qli.clash ∧ (place f s).1.peers = s.peers ∧
    (place f s).1.plan = s.plan ∧ (place f s).1.claim = s.claim ∧ (place f s).1.travel = s.travel ∧
    (place f s).1.spout = s.spout ∧ (place f s).1.cycle = s.cycle ∧ (place f s).1.bills = s.bills ∧
    (place f s).1.qli.degraded = s.qli.degraded ∧ (place f s).1.qli.winErrors = s.qli.winErrors ∧
    (place f s).1.qli.rx = s.qli.rx := by
  unfold place; try dsimp only
  repeat' split
  all_goals (repeat' apply And.intro) <;> first | (simp; done) | rfl

@[simp] theorem offerHead_frame (s : State) :
    (offerHead s).pending = s.pending ∧ (offerHead s).running = s.running ∧ (offerHead s).station = s.station ∧
    (offerHead s).seconds = s.seconds ∧ (offerHead s).base = s.base ∧ (offerHead s).freeIx = s.freeIx ∧
    (offerHead s).pins = s.pins ∧ (offerHead s).cfg = s.cfg ∧ (offerHead s).link = s.link ∧
    (offerHead s).conv = s.conv ∧ (offerHead s).scale = s.scale ∧ (offerHead s).feed = s.feed ∧
    (offerHead s).dust = s.dust ∧ (offerHead s).qli.clash = s.qli.clash ∧ (offerHead s).peers = s.peers ∧
    (offerHead s).plan = s.plan ∧ (offerHead s).claim = s.claim ∧ (offerHead s).travel = s.travel ∧
    (offerHead s).spout = s.spout ∧ (offerHead s).cycle = s.cycle ∧ (offerHead s).bills = s.bills ∧
    (offerHead s).qli.degraded = s.qli.degraded ∧ (offerHead s).qli.winErrors = s.qli.winErrors ∧
    (offerHead s).qli.rx = s.qli.rx := by
  unfold offerHead; try dsimp only
  repeat' split
  all_goals (repeat' apply And.intro) <;> first | (simp; done) | rfl

@[simp] theorem takeOffLine_frame (s : State) :
    (takeOffLine s).pending = s.pending ∧ (takeOffLine s).running = s.running ∧
    (takeOffLine s).station = s.station ∧ (takeOffLine s).seconds = s.seconds ∧ (takeOffLine s).base = s.base ∧
    (takeOffLine s).freeIx = s.freeIx ∧ (takeOffLine s).pins = s.pins ∧ (takeOffLine s).cfg = s.cfg ∧
    (takeOffLine s).link = s.link ∧ (takeOffLine s).conv = s.conv ∧ (takeOffLine s).scale = s.scale ∧
    (takeOffLine s).feed = s.feed ∧ (takeOffLine s).dust = s.dust ∧ (takeOffLine s).qli.clash = s.qli.clash ∧
    (takeOffLine s).peers = s.peers ∧ (takeOffLine s).plan = s.plan ∧ (takeOffLine s).claim = s.claim ∧
    (takeOffLine s).travel = s.travel ∧ (takeOffLine s).spout = s.spout ∧ (takeOffLine s).cycle = s.cycle ∧
    (takeOffLine s).bills = s.bills ∧ (takeOffLine s).qli.degraded = s.qli.degraded ∧
    (takeOffLine s).qli.winErrors = s.qli.winErrors ∧ (takeOffLine s).qli.rx = s.qli.rx := by
  unfold takeOffLine; try dsimp only
  repeat' split
  all_goals (repeat' apply And.intro) <;> first | (simp; done) | rfl

@[simp] theorem echoLeaves_frame (s : State) :
    (echoLeaves s).pending = s.pending ∧ (echoLeaves s).running = s.running ∧ (echoLeaves s).station = s.station ∧
    (echoLeaves s).seconds = s.seconds ∧ (echoLeaves s).base = s.base ∧ (echoLeaves s).freeIx = s.freeIx ∧
    (echoLeaves s).pins = s.pins ∧ (echoLeaves s).cfg = s.cfg ∧ (echoLeaves s).link = s.link ∧
    (echoLeaves s).conv = s.conv ∧ (echoLeaves s).scale = s.scale ∧ (echoLeaves s).feed = s.feed ∧
    (echoLeaves s).dust = s.dust ∧ (echoLeaves s).qli.clash = s.qli.clash ∧ (echoLeaves s).peers = s.peers ∧
    (echoLeaves s).plan = s.plan ∧ (echoLeaves s).claim = s.claim ∧ (echoLeaves s).travel = s.travel ∧
    (echoLeaves s).spout = s.spout ∧ (echoLeaves s).cycle = s.cycle ∧ (echoLeaves s).bills = s.bills ∧
    (echoLeaves s).qli.degraded = s.qli.degraded ∧ (echoLeaves s).qli.winErrors = s.qli.winErrors ∧
    (echoLeaves s).qli.rx = s.qli.rx := by
  unfold echoLeaves; try dsimp only
  repeat' split
  all_goals (repeat' apply And.intro) <;> first | (simp; done) | rfl

@[simp] theorem removeClaim_frame (s : State) :
    (removeClaim s).pending = s.pending ∧ (removeClaim s).running = s.running ∧
    (removeClaim s).station = s.station ∧ (removeClaim s).seconds = s.seconds ∧ (removeClaim s).base = s.base ∧
    (removeClaim s).freeIx = s.freeIx ∧ (removeClaim s).pins = s.pins ∧ (removeClaim s).cfg = s.cfg ∧
    (removeClaim s).link = s.link ∧ (removeClaim s).conv = s.conv ∧ (removeClaim s).scale = s.scale ∧
    (removeClaim s).feed = s.feed ∧ (removeClaim s).dust = s.dust ∧ (removeClaim s).qli.clash = s.qli.clash ∧
    (removeClaim s).peers = s.peers ∧ (removeClaim s).plan = s.plan ∧ (removeClaim s).claim = s.claim ∧
    (removeClaim s).travel = s.travel ∧ (removeClaim s).spout = s.spout ∧ (removeClaim s).cycle = s.cycle ∧
    (removeClaim s).bills = s.bills ∧ (removeClaim s).qli.degraded = s.qli.degraded ∧
    (removeClaim s).qli.winErrors = s.qli.winErrors ∧ (removeClaim s).qli.rx = s.qli.rx := by
  unfold removeClaim; try dsimp only
  repeat' split
  all_goals (repeat' apply And.intro) <;> first | (simp; done) | rfl

@[simp] theorem markClaim_frame (s : State) :
    (markClaim s).pending = s.pending ∧ (markClaim s).running = s.running ∧ (markClaim s).station = s.station ∧
    (markClaim s).seconds = s.seconds ∧ (markClaim s).base = s.base ∧ (markClaim s).freeIx = s.freeIx ∧
    (markClaim s).pins = s.pins ∧ (markClaim s).cfg = s.cfg ∧ (markClaim s).link = s.link ∧
    (markClaim s).conv = s.conv ∧ (markClaim s).scale = s.scale ∧ (markClaim s).feed = s.feed ∧
    (markClaim s).dust = s.dust ∧ (markClaim s).qli.clash = s.qli.clash ∧ (markClaim s).peers = s.peers ∧
    (markClaim s).plan = s.plan ∧ (markClaim s).claim = s.claim ∧ (markClaim s).travel = s.travel ∧
    (markClaim s).spout = s.spout ∧ (markClaim s).cycle = s.cycle ∧ (markClaim s).bills = s.bills ∧
    (markClaim s).qli.degraded = s.qli.degraded ∧ (markClaim s).qli.winErrors = s.qli.winErrors ∧
    (markClaim s).qli.rx = s.qli.rx := by
  unfold markClaim; try dsimp only
  repeat' split
  all_goals (repeat' apply And.intro) <;> first | (simp; done) | rfl

@[simp] theorem restartAttendance_frame (s : State) :
    (restartAttendance s).pending = s.pending ∧ (restartAttendance s).running = s.running ∧
    (restartAttendance s).station = s.station ∧ (restartAttendance s).seconds = s.seconds ∧
    (restartAttendance s).base = s.base ∧ (restartAttendance s).freeIx = s.freeIx ∧
    (restartAttendance s).pins = s.pins ∧ (restartAttendance s).cfg = s.cfg ∧ (restartAttendance s).link = s.link ∧
    (restartAttendance s).conv = s.conv ∧ (restartAttendance s).scale = s.scale ∧
    (restartAttendance s).feed = s.feed ∧ (restartAttendance s).dust = s.dust ∧ (restartAttendance s).qli = s.qli ∧
    (restartAttendance s).peers = s.peers ∧ (restartAttendance s).plan = s.plan ∧
    (restartAttendance s).claim = s.claim ∧ (restartAttendance s).travel = s.travel ∧
    (restartAttendance s).spout = s.spout ∧ (restartAttendance s).cycle.auto = s.cycle.auto ∧
    (restartAttendance s).bills = s.bills := by
  unfold restartAttendance; try dsimp only
  repeat' split
  all_goals (repeat' apply And.intro) <;> first | (simp; done) | rfl

@[simp] theorem setCycle_frame (c : CycleState) (s : State) :
    (setCycle c s).pending = s.pending ∧ (setCycle c s).running = s.running ∧ (setCycle c s).station = s.station ∧
    (setCycle c s).seconds = s.seconds ∧ (setCycle c s).base = s.base ∧ (setCycle c s).freeIx = s.freeIx ∧
    (setCycle c s).pins = s.pins ∧ (setCycle c s).cfg = s.cfg ∧ (setCycle c s).link = s.link ∧
    (setCycle c s).conv = s.conv ∧ (setCycle c s).scale = s.scale ∧ (setCycle c s).feed = s.feed ∧
    (setCycle c s).dust.exposure = s.dust.exposure ∧ (setCycle c s).qli = s.qli ∧ (setCycle c s).peers = s.peers ∧
    (setCycle c s).plan = s.plan ∧ (setCycle c s).claim = s.claim ∧ (setCycle c s).travel = s.travel ∧
    (setCycle c s).spout = s.spout ∧ (setCycle c s).cycle.auto = s.cycle.auto ∧ (setCycle c s).bills = s.bills := by
  unfold setCycle; try dsimp only
  repeat' split
  all_goals (repeat' apply And.intro) <;> first | (simp; done) | rfl

@[simp] theorem withdrawCheck_frame (s : State) :
    (withdrawCheck s).pending = s.pending ∧ (withdrawCheck s).running = s.running ∧
    (withdrawCheck s).station = s.station ∧ (withdrawCheck s).seconds = s.seconds ∧
    (withdrawCheck s).base = s.base ∧ (withdrawCheck s).freeIx = s.freeIx ∧ (withdrawCheck s).pins = s.pins ∧
    (withdrawCheck s).cfg = s.cfg ∧ (withdrawCheck s).link = s.link ∧ (withdrawCheck s).conv = s.conv ∧
    (withdrawCheck s).scale = s.scale ∧ (withdrawCheck s).feed = s.feed ∧
    (withdrawCheck s).dust.exposure = s.dust.exposure ∧ (withdrawCheck s).qli = s.qli ∧
    (withdrawCheck s).peers = s.peers ∧ (withdrawCheck s).plan = s.plan ∧ (withdrawCheck s).claim = s.claim ∧
    (withdrawCheck s).travel = s.travel ∧ (withdrawCheck s).spout = s.spout ∧
    (withdrawCheck s).cycle.auto = s.cycle.auto ∧ (withdrawCheck s).bills = s.bills := by
  unfold withdrawCheck; try dsimp only
  repeat' split
  all_goals (repeat' apply And.intro) <;> first | (simp; done) | rfl

@[simp] theorem cycleLost_frame (s : State) :
    (cycleLost s).pending = s.pending ∧ (cycleLost s).running = s.running ∧ (cycleLost s).station = s.station ∧
    (cycleLost s).seconds = s.seconds ∧ (cycleLost s).base = s.base ∧ (cycleLost s).freeIx = s.freeIx ∧
    (cycleLost s).pins = s.pins ∧ (cycleLost s).cfg = s.cfg ∧ (cycleLost s).link = s.link ∧
    (cycleLost s).conv = s.conv ∧ (cycleLost s).scale = s.scale ∧ (cycleLost s).feed = s.feed ∧
    (cycleLost s).dust.exposure = s.dust.exposure ∧ (cycleLost s).qli = s.qli ∧ (cycleLost s).peers = s.peers ∧
    (cycleLost s).plan = s.plan ∧ (cycleLost s).claim = s.claim ∧ (cycleLost s).travel = s.travel ∧
    (cycleLost s).spout = s.spout ∧ (cycleLost s).cycle.auto = s.cycle.auto ∧ (cycleLost s).bills = s.bills := by
  unfold cycleLost; try dsimp only
  repeat' split
  all_goals (repeat' apply And.intro) <;> first | (simp; done) | rfl

@[simp] theorem claimGone_frame (s : State) :
    (claimGone s).pending = s.pending ∧ (claimGone s).running = s.running ∧ (claimGone s).station = s.station ∧
    (claimGone s).seconds = s.seconds ∧ (claimGone s).base = s.base ∧ (claimGone s).freeIx = s.freeIx ∧
    (claimGone s).pins = s.pins ∧ (claimGone s).cfg = s.cfg ∧ (claimGone s).link = s.link ∧
    (claimGone s).conv = s.conv ∧ (claimGone s).scale = s.scale ∧ (claimGone s).feed = s.feed ∧
    (claimGone s).dust = s.dust ∧ (claimGone s).qli = s.qli ∧ (claimGone s).peers = s.peers ∧
    (claimGone s).plan = s.plan ∧ (claimGone s).travel = s.travel ∧ (claimGone s).spout = s.spout ∧
    (claimGone s).cycle = s.cycle ∧ (claimGone s).bills = s.bills := by
  unfold claimGone; try dsimp only
  repeat' split
  all_goals (repeat' apply And.intro) <;> first | (simp; done) | rfl

@[simp] theorem claimLost_frame (s : State) :
    (claimLost s).pending = s.pending ∧ (claimLost s).running = s.running ∧ (claimLost s).station = s.station ∧
    (claimLost s).seconds = s.seconds ∧ (claimLost s).base = s.base ∧ (claimLost s).freeIx = s.freeIx ∧
    (claimLost s).pins = s.pins ∧ (claimLost s).cfg = s.cfg ∧ (claimLost s).link.buf = s.link.buf ∧
    (claimLost s).link.miso = s.link.miso ∧ (claimLost s).link.enables = s.link.enables ∧
    (claimLost s).conv = s.conv ∧ (claimLost s).scale = s.scale ∧ (claimLost s).feed = s.feed ∧
    (claimLost s).dust.exposure = s.dust.exposure ∧ (claimLost s).qli = s.qli ∧ (claimLost s).peers = s.peers ∧
    (claimLost s).plan = s.plan ∧ (claimLost s).travel = s.travel ∧ (claimLost s).spout = s.spout ∧
    (claimLost s).cycle.auto = s.cycle.auto ∧ (claimLost s).bills.stored = s.bills.stored ∧
    (claimLost s).bills.totals = s.bills.totals ∧ (claimLost s).bills.seq = s.bills.seq ∧
    (claimLost s).bills.entries = s.bills.entries ∧ (claimLost s).bills.summary = s.bills.summary ∧
    (claimLost s).bills.openedAt = s.bills.openedAt := by
  unfold claimLost; try dsimp only
  repeat' split
  all_goals (repeat' apply And.intro) <;> first | (simp; done) | rfl

@[simp] theorem placeBody_frame (s : State) :
    (placeBody s).pending = s.pending ∧ (placeBody s).running = s.running ∧ (placeBody s).station = s.station ∧
    (placeBody s).seconds = s.seconds ∧ (placeBody s).base = s.base ∧ (placeBody s).freeIx = s.freeIx ∧
    (placeBody s).pins = s.pins ∧ (placeBody s).cfg = s.cfg ∧ (placeBody s).link = s.link ∧
    (placeBody s).conv = s.conv ∧ (placeBody s).scale = s.scale ∧ (placeBody s).feed = s.feed ∧
    (placeBody s).dust = s.dust ∧ (placeBody s).qli.clash = s.qli.clash ∧ (placeBody s).peers = s.peers ∧
    (placeBody s).plan = s.plan ∧ (placeBody s).claim = s.claim ∧ (placeBody s).travel = s.travel ∧
    (placeBody s).spout = s.spout ∧ (placeBody s).cycle = s.cycle ∧ (placeBody s).bills = s.bills ∧
    (placeBody s).qli.degraded = s.qli.degraded ∧ (placeBody s).qli.winErrors = s.qli.winErrors ∧
    (placeBody s).qli.rx = s.qli.rx := by
  unfold placeBody; try dsimp only
  repeat' split
  all_goals (repeat' apply And.intro) <;> first | (simp; done) | rfl

@[simp] theorem dropNotice_frame (f : Frame) (s : State) :
    (dropNotice f s).pending = s.pending ∧ (dropNotice f s).running = s.running ∧
    (dropNotice f s).station = s.station ∧ (dropNotice f s).seconds = s.seconds ∧ (dropNotice f s).base = s.base ∧
    (dropNotice f s).freeIx = s.freeIx ∧ (dropNotice f s).pins = s.pins ∧ (dropNotice f s).cfg = s.cfg ∧
    (dropNotice f s).link.buf = s.link.buf ∧ (dropNotice f s).link.miso = s.link.miso ∧
    (dropNotice f s).link.enables = s.link.enables ∧ (dropNotice f s).conv = s.conv ∧
    (dropNotice f s).scale = s.scale ∧ (dropNotice f s).feed = s.feed ∧
    (dropNotice f s).dust.exposure = s.dust.exposure ∧ (dropNotice f s).qli.clash = s.qli.clash ∧
    (dropNotice f s).peers = s.peers ∧ (dropNotice f s).plan = s.plan ∧ (dropNotice f s).spout = s.spout ∧
    (dropNotice f s).cycle.auto = s.cycle.auto ∧ (dropNotice f s).bills.stored = s.bills.stored ∧
    (dropNotice f s).bills.totals = s.bills.totals ∧ (dropNotice f s).bills.seq = s.bills.seq ∧
    (dropNotice f s).bills.entries = s.bills.entries ∧ (dropNotice f s).bills.summary = s.bills.summary ∧
    (dropNotice f s).bills.openedAt = s.bills.openedAt ∧ (dropNotice f s).travel.count = s.travel.count ∧
    (dropNotice f s).travel.referenced = s.travel.referenced ∧ (dropNotice f s).qli.degraded = s.qli.degraded ∧
    (dropNotice f s).qli.winErrors = s.qli.winErrors ∧ (dropNotice f s).qli.rx = s.qli.rx := by
  unfold dropNotice; try dsimp only
  repeat' split
  all_goals (repeat' apply And.intro) <;> first | (simp; done) | rfl

@[simp] theorem enqueue_frame (f : Frame) (s : State) :
    (enqueue f s).pending = s.pending ∧ (enqueue f s).running = s.running ∧ (enqueue f s).station = s.station ∧
    (enqueue f s).seconds = s.seconds ∧ (enqueue f s).base = s.base ∧ (enqueue f s).freeIx = s.freeIx ∧
    (enqueue f s).pins = s.pins ∧ (enqueue f s).cfg = s.cfg ∧ (enqueue f s).link.buf = s.link.buf ∧
    (enqueue f s).link.miso = s.link.miso ∧ (enqueue f s).link.enables = s.link.enables ∧
    (enqueue f s).conv = s.conv ∧ (enqueue f s).scale = s.scale ∧ (enqueue f s).feed = s.feed ∧
    (enqueue f s).dust.exposure = s.dust.exposure ∧ (enqueue f s).qli.clash = s.qli.clash ∧
    (enqueue f s).peers = s.peers ∧ (enqueue f s).plan = s.plan ∧ (enqueue f s).spout = s.spout ∧
    (enqueue f s).cycle.auto = s.cycle.auto ∧ (enqueue f s).bills.stored = s.bills.stored ∧
    (enqueue f s).bills.totals = s.bills.totals ∧ (enqueue f s).bills.seq = s.bills.seq ∧
    (enqueue f s).bills.entries = s.bills.entries ∧ (enqueue f s).bills.summary = s.bills.summary ∧
    (enqueue f s).bills.openedAt = s.bills.openedAt ∧ (enqueue f s).travel.count = s.travel.count ∧
    (enqueue f s).travel.referenced = s.travel.referenced ∧ (enqueue f s).qli.degraded = s.qli.degraded ∧
    (enqueue f s).qli.winErrors = s.qli.winErrors ∧ (enqueue f s).qli.rx = s.qli.rx := by
  unfold enqueue tellDrop; try dsimp only
  repeat' split
  all_goals (repeat' apply And.intro) <;> first | (simp; done) | rfl

@[simp] theorem withdrawClaim_frame (s : State) :
    (withdrawClaim s).pending = s.pending ∧ (withdrawClaim s).running = s.running ∧
    (withdrawClaim s).station = s.station ∧ (withdrawClaim s).seconds = s.seconds ∧
    (withdrawClaim s).base = s.base ∧ (withdrawClaim s).freeIx = s.freeIx ∧ (withdrawClaim s).pins = s.pins ∧
    (withdrawClaim s).cfg = s.cfg ∧ (withdrawClaim s).link.buf = s.link.buf ∧
    (withdrawClaim s).link.miso = s.link.miso ∧ (withdrawClaim s).link.enables = s.link.enables ∧
    (withdrawClaim s).conv = s.conv ∧ (withdrawClaim s).scale = s.scale ∧ (withdrawClaim s).feed = s.feed ∧
    (withdrawClaim s).dust.exposure = s.dust.exposure ∧ (withdrawClaim s).qli.clash = s.qli.clash ∧
    (withdrawClaim s).peers = s.peers ∧ (withdrawClaim s).plan = s.plan ∧ (withdrawClaim s).travel = s.travel ∧
    (withdrawClaim s).spout = s.spout ∧ (withdrawClaim s).cycle.auto = s.cycle.auto ∧
    (withdrawClaim s).bills.stored = s.bills.stored ∧ (withdrawClaim s).bills.totals = s.bills.totals ∧
    (withdrawClaim s).bills.seq = s.bills.seq ∧ (withdrawClaim s).bills.entries = s.bills.entries ∧
    (withdrawClaim s).bills.summary = s.bills.summary ∧ (withdrawClaim s).bills.openedAt = s.bills.openedAt ∧
    (withdrawClaim s).qli.degraded = s.qli.degraded ∧ (withdrawClaim s).qli.winErrors = s.qli.winErrors ∧
    (withdrawClaim s).qli.rx = s.qli.rx := by
  unfold withdrawClaim; try dsimp only
  repeat' split
  all_goals (repeat' apply And.intro) <;> first | (simp; done) | rfl

@[simp] theorem sendDust_frame (s : State) :
    (sendDust s).pending = s.pending ∧ (sendDust s).running = s.running ∧ (sendDust s).station = s.station ∧
    (sendDust s).seconds = s.seconds ∧ (sendDust s).base = s.base ∧ (sendDust s).freeIx = s.freeIx ∧
    (sendDust s).pins = s.pins ∧ (sendDust s).cfg = s.cfg ∧ (sendDust s).link.buf = s.link.buf ∧
    (sendDust s).link.miso = s.link.miso ∧ (sendDust s).link.enables = s.link.enables ∧ (sendDust s).conv = s.conv ∧
    (sendDust s).scale = s.scale ∧ (sendDust s).feed = s.feed ∧ (sendDust s).dust.exposure = s.dust.exposure ∧
    (sendDust s).qli.clash = s.qli.clash ∧ (sendDust s).peers = s.peers ∧ (sendDust s).plan = s.plan ∧
    (sendDust s).spout = s.spout ∧ (sendDust s).cycle.auto = s.cycle.auto ∧
    (sendDust s).bills.stored = s.bills.stored ∧ (sendDust s).bills.totals = s.bills.totals ∧
    (sendDust s).bills.seq = s.bills.seq ∧ (sendDust s).bills.entries = s.bills.entries ∧
    (sendDust s).bills.summary = s.bills.summary ∧ (sendDust s).bills.openedAt = s.bills.openedAt ∧
    (sendDust s).travel.count = s.travel.count ∧ (sendDust s).travel.referenced = s.travel.referenced ∧
    (sendDust s).qli.degraded = s.qli.degraded ∧ (sendDust s).qli.winErrors = s.qli.winErrors ∧
    (sendDust s).qli.rx = s.qli.rx := by
  unfold sendDust; try dsimp only
  repeat' split
  all_goals (repeat' apply And.intro) <;> first | (simp; done) | rfl

@[simp] theorem announceDust_frame (level : DustLevel) (trips : Nat) (s : State) :
    (announceDust level trips s).pending = s.pending ∧ (announceDust level trips s).running = s.running ∧
    (announceDust level trips s).station = s.station ∧ (announceDust level trips s).seconds = s.seconds ∧
    (announceDust level trips s).base = s.base ∧ (announceDust level trips s).freeIx = s.freeIx ∧
    (announceDust level trips s).pins = s.pins ∧ (announceDust level trips s).cfg = s.cfg ∧
    (announceDust level trips s).link.buf = s.link.buf ∧ (announceDust level trips s).link.miso = s.link.miso ∧
    (announceDust level trips s).link.enables = s.link.enables ∧ (announceDust level trips s).conv = s.conv ∧
    (announceDust level trips s).scale = s.scale ∧ (announceDust level trips s).feed = s.feed ∧
    (announceDust level trips s).dust.exposure = s.dust.exposure ∧
    (announceDust level trips s).qli.clash = s.qli.clash ∧ (announceDust level trips s).peers = s.peers ∧
    (announceDust level trips s).plan = s.plan ∧ (announceDust level trips s).spout = s.spout ∧
    (announceDust level trips s).cycle.auto = s.cycle.auto ∧
    (announceDust level trips s).bills.stored = s.bills.stored ∧
    (announceDust level trips s).bills.totals = s.bills.totals ∧
    (announceDust level trips s).bills.seq = s.bills.seq ∧
    (announceDust level trips s).bills.entries = s.bills.entries ∧
    (announceDust level trips s).bills.summary = s.bills.summary ∧
    (announceDust level trips s).bills.openedAt = s.bills.openedAt ∧
    (announceDust level trips s).travel.count = s.travel.count ∧
    (announceDust level trips s).travel.referenced = s.travel.referenced ∧
    (announceDust level trips s).qli.degraded = s.qli.degraded ∧
    (announceDust level trips s).qli.winErrors = s.qli.winErrors ∧ (announceDust level trips s).qli.rx = s.qli.rx := by
  unfold announceDust; try dsimp only
  repeat' split
  all_goals (repeat' apply And.intro) <;> first | (simp; done) | rfl

end Sys2Proof.Machine
end

