-- ==== Sys2Proof/Laws/Tower.lean ====
section
/-! SUPPORT. Frame lemmas: what each shared operation of the Travel Unit and the Cycle Controller, and each chain of notices, leaves unchanged.
Each `<op>_frame` is one conjunction, so that simp rewrites with every part of it and no caller unfolds the operation. -/

namespace Sys2Proof.Machine

@[simp] theorem handSpan_frame (s : State) :
    (handSpan s).pending = s.pending ∧ (handSpan s).running = s.running ∧ (handSpan s).station = s.station ∧
    (handSpan s).seconds = s.seconds ∧ (handSpan s).base = s.base ∧ (handSpan s).freeIx = s.freeIx ∧
    (handSpan s).pins = s.pins ∧ (handSpan s).cfg = s.cfg ∧ (handSpan s).link.buf = s.link.buf ∧
    (handSpan s).link.miso = s.link.miso ∧ (handSpan s).link.enables = s.link.enables ∧ (handSpan s).conv = s.conv ∧
    (handSpan s).scale = s.scale ∧ (handSpan s).feed = s.feed ∧ (handSpan s).dust.exposure = s.dust.exposure ∧
    (handSpan s).qli.clash = s.qli.clash ∧ (handSpan s).peers = s.peers ∧ (handSpan s).plan = s.plan ∧
    (handSpan s).spout = s.spout ∧ (handSpan s).cycle.auto = s.cycle.auto ∧
    (handSpan s).bills.stored = s.bills.stored ∧ (handSpan s).bills.totals = s.bills.totals ∧
    (handSpan s).bills.seq = s.bills.seq ∧ (handSpan s).bills.entries = s.bills.entries ∧
    (handSpan s).bills.summary = s.bills.summary ∧ (handSpan s).bills.openedAt = s.bills.openedAt ∧
    (handSpan s).travel.count = s.travel.count ∧ (handSpan s).travel.referenced = s.travel.referenced ∧
    (handSpan s).qli.degraded = s.qli.degraded ∧ (handSpan s).qli.winErrors = s.qli.winErrors ∧
    (handSpan s).qli.rx = s.qli.rx := by
  unfold handSpan; try dsimp only
  repeat' split
  all_goals (repeat' apply And.intro) <;> first | (simp; done) | rfl

@[simp] theorem handSpanIfChanged_frame (before : Option Stretch) (s : State) :
    (handSpanIfChanged before s).pending = s.pending ∧ (handSpanIfChanged before s).running = s.running ∧
    (handSpanIfChanged before s).station = s.station ∧ (handSpanIfChanged before s).seconds = s.seconds ∧
    (handSpanIfChanged before s).base = s.base ∧ (handSpanIfChanged before s).freeIx = s.freeIx ∧
    (handSpanIfChanged before s).pins = s.pins ∧ (handSpanIfChanged before s).cfg = s.cfg ∧
    (handSpanIfChanged before s).link.buf = s.link.buf ∧ (handSpanIfChanged before s).link.miso = s.link.miso ∧
    (handSpanIfChanged before s).link.enables = s.link.enables ∧ (handSpanIfChanged before s).conv = s.conv ∧
    (handSpanIfChanged before s).scale = s.scale ∧ (handSpanIfChanged before s).feed = s.feed ∧
    (handSpanIfChanged before s).dust.exposure = s.dust.exposure ∧
    (handSpanIfChanged before s).qli.clash = s.qli.clash ∧ (handSpanIfChanged before s).peers = s.peers ∧
    (handSpanIfChanged before s).plan = s.plan ∧ (handSpanIfChanged before s).spout = s.spout ∧
    (handSpanIfChanged before s).cycle.auto = s.cycle.auto ∧
    (handSpanIfChanged before s).bills.stored = s.bills.stored ∧
    (handSpanIfChanged before s).bills.totals = s.bills.totals ∧
    (handSpanIfChanged before s).bills.seq = s.bills.seq ∧
    (handSpanIfChanged before s).bills.entries = s.bills.entries ∧
    (handSpanIfChanged before s).bills.summary = s.bills.summary ∧
    (handSpanIfChanged before s).bills.openedAt = s.bills.openedAt ∧
    (handSpanIfChanged before s).travel.count = s.travel.count ∧
    (handSpanIfChanged before s).travel.referenced = s.travel.referenced ∧
    (handSpanIfChanged before s).qli.degraded = s.qli.degraded ∧
    (handSpanIfChanged before s).qli.winErrors = s.qli.winErrors ∧ (handSpanIfChanged before s).qli.rx = s.qli.rx := by
  unfold handSpanIfChanged; try dsimp only
  repeat' split
  all_goals (repeat' apply And.intro) <;> first | (simp; done) | rfl

@[simp] theorem faultTravel_frame (c : TravelFault) (s : State) :
    (faultTravel c s).pending = s.pending ∧ (faultTravel c s).running = s.running ∧
    (faultTravel c s).station = s.station ∧ (faultTravel c s).seconds = s.seconds ∧
    (faultTravel c s).base = s.base ∧ (faultTravel c s).freeIx = s.freeIx ∧ (faultTravel c s).pins = s.pins ∧
    (faultTravel c s).cfg = s.cfg ∧ (faultTravel c s).link.buf = s.link.buf ∧
    (faultTravel c s).link.miso = s.link.miso ∧ (faultTravel c s).link.enables = s.link.enables ∧
    (faultTravel c s).conv = s.conv ∧ (faultTravel c s).scale = s.scale ∧ (faultTravel c s).feed = s.feed ∧
    (faultTravel c s).dust.exposure = s.dust.exposure ∧ (faultTravel c s).qli.clash = s.qli.clash ∧
    (faultTravel c s).peers = s.peers ∧ (faultTravel c s).plan = s.plan ∧ (faultTravel c s).spout = s.spout ∧
    (faultTravel c s).cycle.auto = s.cycle.auto ∧ (faultTravel c s).bills.stored = s.bills.stored ∧
    (faultTravel c s).bills.totals = s.bills.totals ∧ (faultTravel c s).bills.seq = s.bills.seq ∧
    (faultTravel c s).bills.entries = s.bills.entries ∧ (faultTravel c s).bills.summary = s.bills.summary ∧
    (faultTravel c s).bills.openedAt = s.bills.openedAt ∧ (faultTravel c s).qli.degraded = s.qli.degraded ∧
    (faultTravel c s).qli.winErrors = s.qli.winErrors ∧ (faultTravel c s).qli.rx = s.qli.rx := by
  unfold faultTravel; try dsimp only
  repeat' split
  all_goals (repeat' apply And.intro) <;> first | (simp; done) | rfl

@[simp] theorem proxTest_frame (s : State) :
    (proxTest s).pending = s.pending ∧ (proxTest s).running = s.running ∧ (proxTest s).station = s.station ∧
    (proxTest s).seconds = s.seconds ∧ (proxTest s).base = s.base ∧ (proxTest s).freeIx = s.freeIx ∧
    (proxTest s).pins = s.pins ∧ (proxTest s).cfg = s.cfg ∧ (proxTest s).link.buf = s.link.buf ∧
    (proxTest s).link.miso = s.link.miso ∧ (proxTest s).link.enables = s.link.enables ∧ (proxTest s).conv = s.conv ∧
    (proxTest s).scale = s.scale ∧ (proxTest s).feed = s.feed ∧ (proxTest s).dust.exposure = s.dust.exposure ∧
    (proxTest s).qli.clash = s.qli.clash ∧ (proxTest s).peers = s.peers ∧ (proxTest s).plan = s.plan ∧
    (proxTest s).spout = s.spout ∧ (proxTest s).cycle.auto = s.cycle.auto ∧
    (proxTest s).bills.stored = s.bills.stored ∧ (proxTest s).bills.totals = s.bills.totals ∧
    (proxTest s).bills.seq = s.bills.seq ∧ (proxTest s).bills.entries = s.bills.entries ∧
    (proxTest s).bills.summary = s.bills.summary ∧ (proxTest s).bills.openedAt = s.bills.openedAt ∧
    (proxTest s).qli.degraded = s.qli.degraded ∧ (proxTest s).qli.winErrors = s.qli.winErrors ∧
    (proxTest s).qli.rx = s.qli.rx := by
  unfold proxTest; try dsimp only
  repeat' split
  all_goals (repeat' apply And.intro) <;> first | (simp; done) | rfl

@[simp] theorem startDrive_frame (target : Nat) (s : State) :
    (startDrive target s).pending = s.pending ∧ (startDrive target s).running = s.running ∧
    (startDrive target s).station = s.station ∧ (startDrive target s).seconds = s.seconds ∧
    (startDrive target s).base = s.base ∧ (startDrive target s).freeIx = s.freeIx ∧
    (startDrive target s).pins = s.pins ∧ (startDrive target s).cfg = s.cfg ∧
    (startDrive target s).link.buf = s.link.buf ∧ (startDrive target s).link.miso = s.link.miso ∧
    (startDrive target s).link.enables = s.link.enables ∧ (startDrive target s).conv = s.conv ∧
    (startDrive target s).scale = s.scale ∧ (startDrive target s).feed = s.feed ∧
    (startDrive target s).dust.exposure = s.dust.exposure ∧ (startDrive target s).qli.clash = s.qli.clash ∧
    (startDrive target s).peers = s.peers ∧ (startDrive target s).plan = s.plan ∧
    (startDrive target s).spout = s.spout ∧ (startDrive target s).cycle.auto = s.cycle.auto ∧
    (startDrive target s).bills.stored = s.bills.stored ∧ (startDrive target s).bills.totals = s.bills.totals ∧
    (startDrive target s).bills.seq = s.bills.seq ∧ (startDrive target s).bills.entries = s.bills.entries ∧
    (startDrive target s).bills.summary = s.bills.summary ∧
    (startDrive target s).bills.openedAt = s.bills.openedAt ∧ (startDrive target s).qli.degraded = s.qli.degraded ∧
    (startDrive target s).qli.winErrors = s.qli.winErrors ∧ (startDrive target s).qli.rx = s.qli.rx := by
  unfold startDrive; try dsimp only
  repeat' split
  all_goals (repeat' apply And.intro) <;> first | (simp; done) | rfl

@[simp] theorem reservationCheck_frame (target : Nat) (s : State) :
    (reservationCheck target s).pending = s.pending ∧ (reservationCheck target s).running = s.running ∧
    (reservationCheck target s).station = s.station ∧ (reservationCheck target s).seconds = s.seconds ∧
    (reservationCheck target s).base = s.base ∧ (reservationCheck target s).freeIx = s.freeIx ∧
    (reservationCheck target s).pins = s.pins ∧ (reservationCheck target s).cfg = s.cfg ∧
    (reservationCheck target s).link.buf = s.link.buf ∧ (reservationCheck target s).link.miso = s.link.miso ∧
    (reservationCheck target s).link.enables = s.link.enables ∧ (reservationCheck target s).conv = s.conv ∧
    (reservationCheck target s).scale = s.scale ∧ (reservationCheck target s).feed = s.feed ∧
    (reservationCheck target s).dust.exposure = s.dust.exposure ∧
    (reservationCheck target s).qli.clash = s.qli.clash ∧ (reservationCheck target s).peers = s.peers ∧
    (reservationCheck target s).plan = s.plan ∧ (reservationCheck target s).spout = s.spout ∧
    (reservationCheck target s).cycle.auto = s.cycle.auto ∧
    (reservationCheck target s).bills.stored = s.bills.stored ∧
    (reservationCheck target s).bills.totals = s.bills.totals ∧
    (reservationCheck target s).bills.seq = s.bills.seq ∧
    (reservationCheck target s).bills.entries = s.bills.entries ∧
    (reservationCheck target s).bills.summary = s.bills.summary ∧
    (reservationCheck target s).bills.openedAt = s.bills.openedAt ∧
    (reservationCheck target s).qli.degraded = s.qli.degraded ∧
    (reservationCheck target s).qli.winErrors = s.qli.winErrors ∧ (reservationCheck target s).qli.rx = s.qli.rx := by
  unfold reservationCheck; try dsimp only
  repeat' split
  all_goals (repeat' apply And.intro) <;> first | (simp; done) | rfl

@[simp] theorem yieldRail_frame (s : State) :
    (yieldRail s).pending = s.pending ∧ (yieldRail s).running = s.running ∧ (yieldRail s).station = s.station ∧
    (yieldRail s).seconds = s.seconds ∧ (yieldRail s).base = s.base ∧ (yieldRail s).freeIx = s.freeIx ∧
    (yieldRail s).pins = s.pins ∧ (yieldRail s).cfg = s.cfg ∧ (yieldRail s).link.buf = s.link.buf ∧
    (yieldRail s).link.miso = s.link.miso ∧ (yieldRail s).link.enables = s.link.enables ∧
    (yieldRail s).conv = s.conv ∧ (yieldRail s).scale = s.scale ∧ (yieldRail s).feed = s.feed ∧
    (yieldRail s).dust.exposure = s.dust.exposure ∧ (yieldRail s).qli.clash = s.qli.clash ∧
    (yieldRail s).peers = s.peers ∧ (yieldRail s).plan = s.plan ∧ (yieldRail s).spout = s.spout ∧
    (yieldRail s).cycle.auto = s.cycle.auto ∧ (yieldRail s).bills.stored = s.bills.stored ∧
    (yieldRail s).bills.totals = s.bills.totals ∧ (yieldRail s).bills.seq = s.bills.seq ∧
    (yieldRail s).bills.entries = s.bills.entries ∧ (yieldRail s).bills.summary = s.bills.summary ∧
    (yieldRail s).bills.openedAt = s.bills.openedAt ∧ (yieldRail s).qli.degraded = s.qli.degraded ∧
    (yieldRail s).qli.winErrors = s.qli.winErrors ∧ (yieldRail s).qli.rx = s.qli.rx := by
  unfold yieldRail; try dsimp only
  repeat' split
  all_goals (repeat' apply And.intro) <;> first | (simp; done) | rfl

@[simp] theorem requestMove_frame (hold : Nat) (s : State) :
    (requestMove hold s).1.pending = s.pending ∧ (requestMove hold s).1.running = s.running ∧
    (requestMove hold s).1.station = s.station ∧ (requestMove hold s).1.seconds = s.seconds ∧
    (requestMove hold s).1.base = s.base ∧ (requestMove hold s).1.freeIx = s.freeIx ∧
    (requestMove hold s).1.pins = s.pins ∧ (requestMove hold s).1.cfg = s.cfg ∧
    (requestMove hold s).1.link.buf = s.link.buf ∧ (requestMove hold s).1.link.miso = s.link.miso ∧
    (requestMove hold s).1.link.enables = s.link.enables ∧ (requestMove hold s).1.conv = s.conv ∧
    (requestMove hold s).1.scale = s.scale ∧ (requestMove hold s).1.feed = s.feed ∧
    (requestMove hold s).1.dust.exposure = s.dust.exposure ∧ (requestMove hold s).1.qli.clash = s.qli.clash ∧
    (requestMove hold s).1.peers = s.peers ∧ (requestMove hold s).1.plan = s.plan ∧
    (requestMove hold s).1.spout = s.spout ∧ (requestMove hold s).1.cycle.auto = s.cycle.auto ∧
    (requestMove hold s).1.bills.stored = s.bills.stored ∧ (requestMove hold s).1.bills.totals = s.bills.totals ∧
    (requestMove hold s).1.bills.seq = s.bills.seq ∧ (requestMove hold s).1.bills.entries = s.bills.entries ∧
    (requestMove hold s).1.bills.summary = s.bills.summary ∧
    (requestMove hold s).1.bills.openedAt = s.bills.openedAt ∧
    (requestMove hold s).1.qli.degraded = s.qli.degraded ∧ (requestMove hold s).1.qli.winErrors = s.qli.winErrors ∧
    (requestMove hold s).1.qli.rx = s.qli.rx := by
  unfold requestMove; try dsimp only
  repeat' split
  all_goals (repeat' apply And.intro) <;> first | (simp; done) | rfl

@[simp] theorem stopTravel_frame (s : State) :
    (stopTravel s).pending = s.pending ∧ (stopTravel s).running = s.running ∧ (stopTravel s).station = s.station ∧
    (stopTravel s).seconds = s.seconds ∧ (stopTravel s).base = s.base ∧ (stopTravel s).freeIx = s.freeIx ∧
    (stopTravel s).pins = s.pins ∧ (stopTravel s).cfg = s.cfg ∧ (stopTravel s).link.buf = s.link.buf ∧
    (stopTravel s).link.miso = s.link.miso ∧ (stopTravel s).link.enables = s.link.enables ∧
    (stopTravel s).conv = s.conv ∧ (stopTravel s).scale = s.scale ∧ (stopTravel s).feed = s.feed ∧
    (stopTravel s).dust.exposure = s.dust.exposure ∧ (stopTravel s).qli.clash = s.qli.clash ∧
    (stopTravel s).peers = s.peers ∧ (stopTravel s).plan = s.plan ∧ (stopTravel s).spout = s.spout ∧
    (stopTravel s).cycle.auto = s.cycle.auto ∧ (stopTravel s).bills.stored = s.bills.stored ∧
    (stopTravel s).bills.totals = s.bills.totals ∧ (stopTravel s).bills.seq = s.bills.seq ∧
    (stopTravel s).bills.entries = s.bills.entries ∧ (stopTravel s).bills.summary = s.bills.summary ∧
    (stopTravel s).bills.openedAt = s.bills.openedAt ∧ (stopTravel s).qli.degraded = s.qli.degraded ∧
    (stopTravel s).qli.winErrors = s.qli.winErrors ∧ (stopTravel s).qli.rx = s.qli.rx := by
  unfold stopTravel; try dsimp only
  repeat' split
  all_goals (repeat' apply And.intro) <;> first | (simp; done) | rfl

@[simp] theorem clearTravel_frame (s : State) :
    (clearTravel s).pending = s.pending ∧ (clearTravel s).running = s.running ∧
    (clearTravel s).station = s.station ∧ (clearTravel s).seconds = s.seconds ∧ (clearTravel s).base = s.base ∧
    (clearTravel s).freeIx = s.freeIx ∧ (clearTravel s).pins = s.pins ∧ (clearTravel s).cfg = s.cfg ∧
    (clearTravel s).link = s.link ∧ (clearTravel s).conv = s.conv ∧ (clearTravel s).scale = s.scale ∧
    (clearTravel s).feed = s.feed ∧ (clearTravel s).dust = s.dust ∧ (clearTravel s).qli = s.qli ∧
    (clearTravel s).peers = s.peers ∧ (clearTravel s).plan = s.plan ∧ (clearTravel s).claim = s.claim ∧
    (clearTravel s).spout = s.spout ∧ (clearTravel s).cycle = s.cycle ∧ (clearTravel s).bills = s.bills ∧
    (clearTravel s).travel.count = s.travel.count ∧ (clearTravel s).travel.referenced = s.travel.referenced := by
  unfold clearTravel; try dsimp only
  repeat' split
  all_goals (repeat' apply And.intro) <;> first | (simp; done) | rfl

@[simp] theorem creepEntry_frame (target : Nat) (s : State) :
    (creepEntry target s).pending = s.pending ∧ (creepEntry target s).running = s.running ∧
    (creepEntry target s).station = s.station ∧ (creepEntry target s).seconds = s.seconds ∧
    (creepEntry target s).base = s.base ∧ (creepEntry target s).freeIx = s.freeIx ∧
    (creepEntry target s).pins = s.pins ∧ (creepEntry target s).cfg = s.cfg ∧ (creepEntry target s).link = s.link ∧
    (creepEntry target s).conv = s.conv ∧ (creepEntry target s).scale = s.scale ∧
    (creepEntry target s).feed = s.feed ∧ (creepEntry target s).dust = s.dust ∧ (creepEntry target s).qli = s.qli ∧
    (creepEntry target s).peers = s.peers ∧ (creepEntry target s).plan = s.plan ∧
    (creepEntry target s).claim = s.claim ∧ (creepEntry target s).spout = s.spout ∧
    (creepEntry target s).cycle = s.cycle ∧ (creepEntry target s).bills = s.bills ∧
    (creepEntry target s).travel.count = s.travel.count ∧
    (creepEntry target s).travel.referenced = s.travel.referenced := by
  unfold creepEntry; try dsimp only
  repeat' split
  all_goals (repeat' apply And.intro) <;> first | (simp; done) | rfl

@[simp] theorem overshoot_frame (s : State) :
    (overshoot s).pending = s.pending ∧ (overshoot s).running = s.running ∧ (overshoot s).station = s.station ∧
    (overshoot s).seconds = s.seconds ∧ (overshoot s).base = s.base ∧ (overshoot s).freeIx = s.freeIx ∧
    (overshoot s).pins = s.pins ∧ (overshoot s).cfg = s.cfg ∧ (overshoot s).link.buf = s.link.buf ∧
    (overshoot s).link.miso = s.link.miso ∧ (overshoot s).link.enables = s.link.enables ∧
    (overshoot s).conv = s.conv ∧ (overshoot s).scale = s.scale ∧ (overshoot s).feed = s.feed ∧
    (overshoot s).dust.exposure = s.dust.exposure ∧ (overshoot s).qli.clash = s.qli.clash ∧
    (overshoot s).peers = s.peers ∧ (overshoot s).plan = s.plan ∧ (overshoot s).spout = s.spout ∧
    (overshoot s).cycle.auto = s.cycle.auto ∧ (overshoot s).bills.stored = s.bills.stored ∧
    (overshoot s).bills.totals = s.bills.totals ∧ (overshoot s).bills.seq = s.bills.seq ∧
    (overshoot s).bills.entries = s.bills.entries ∧ (overshoot s).bills.summary = s.bills.summary ∧
    (overshoot s).bills.openedAt = s.bills.openedAt ∧ (overshoot s).qli.degraded = s.qli.degraded ∧
    (overshoot s).qli.winErrors = s.qli.winErrors ∧ (overshoot s).qli.rx = s.qli.rx := by
  unfold overshoot; try dsimp only
  repeat' split
  all_goals (repeat' apply And.intro) <;> first | (simp; done) | rfl

@[simp] theorem coast_frame (s : State) :
    (coast s).pending = s.pending ∧ (coast s).running = s.running ∧ (coast s).station = s.station ∧
    (coast s).seconds = s.seconds ∧ (coast s).base = s.base ∧ (coast s).freeIx = s.freeIx ∧
    (coast s).pins = s.pins ∧ (coast s).cfg = s.cfg ∧ (coast s).link = s.link ∧ (coast s).conv = s.conv ∧
    (coast s).scale = s.scale ∧ (coast s).feed = s.feed ∧ (coast s).dust = s.dust ∧ (coast s).qli = s.qli ∧
    (coast s).peers = s.peers ∧ (coast s).plan = s.plan ∧ (coast s).claim = s.claim ∧ (coast s).spout = s.spout ∧
    (coast s).cycle = s.cycle ∧ (coast s).bills = s.bills ∧ (coast s).travel.count = s.travel.count ∧
    (coast s).travel.referenced = s.travel.referenced := by
  unfold coast; try dsimp only
  repeat' split
  all_goals (repeat' apply And.intro) <;> first | (simp; done) | rfl

@[simp] theorem travelTests_frame (s : State) :
    (travelTests s).pending = s.pending ∧ (travelTests s).running = s.running ∧
    (travelTests s).station = s.station ∧ (travelTests s).seconds = s.seconds ∧ (travelTests s).base = s.base ∧
    (travelTests s).freeIx = s.freeIx ∧ (travelTests s).pins = s.pins ∧ (travelTests s).cfg = s.cfg ∧
    (travelTests s).link.buf = s.link.buf ∧ (travelTests s).link.miso = s.link.miso ∧
    (travelTests s).link.enables = s.link.enables ∧ (travelTests s).conv = s.conv ∧
    (travelTests s).scale = s.scale ∧ (travelTests s).feed = s.feed ∧
    (travelTests s).dust.exposure = s.dust.exposure ∧ (travelTests s).qli.clash = s.qli.clash ∧
    (travelTests s).peers = s.peers ∧ (travelTests s).plan = s.plan ∧ (travelTests s).spout = s.spout ∧
    (travelTests s).cycle.auto = s.cycle.auto ∧ (travelTests s).bills.stored = s.bills.stored ∧
    (travelTests s).bills.totals = s.bills.totals ∧ (travelTests s).bills.seq = s.bills.seq ∧
    (travelTests s).bills.entries = s.bills.entries ∧ (travelTests s).bills.summary = s.bills.summary ∧
    (travelTests s).bills.openedAt = s.bills.openedAt ∧ (travelTests s).qli.degraded = s.qli.degraded ∧
    (travelTests s).qli.winErrors = s.qli.winErrors ∧ (travelTests s).qli.rx = s.qli.rx := by
  unfold travelTests; try dsimp only
  repeat' split
  all_goals (repeat' apply And.intro) <;> first | (simp; done) | rfl

@[simp] theorem shrinkSpan_frame (s : State) :
    (shrinkSpan s).pending = s.pending ∧ (shrinkSpan s).running = s.running ∧ (shrinkSpan s).station = s.station ∧
    (shrinkSpan s).seconds = s.seconds ∧ (shrinkSpan s).base = s.base ∧ (shrinkSpan s).freeIx = s.freeIx ∧
    (shrinkSpan s).pins = s.pins ∧ (shrinkSpan s).cfg = s.cfg ∧ (shrinkSpan s).link = s.link ∧
    (shrinkSpan s).conv = s.conv ∧ (shrinkSpan s).scale = s.scale ∧ (shrinkSpan s).feed = s.feed ∧
    (shrinkSpan s).dust = s.dust ∧ (shrinkSpan s).qli = s.qli ∧ (shrinkSpan s).peers = s.peers ∧
    (shrinkSpan s).plan = s.plan ∧ (shrinkSpan s).claim = s.claim ∧ (shrinkSpan s).spout = s.spout ∧
    (shrinkSpan s).cycle = s.cycle ∧ (shrinkSpan s).bills = s.bills ∧ (shrinkSpan s).travel.count = s.travel.count ∧
    (shrinkSpan s).travel.referenced = s.travel.referenced := by
  unfold shrinkSpan; try dsimp only
  repeat' split
  all_goals (repeat' apply And.intro) <;> first | (simp; done) | rfl

@[simp] theorem positionMoved_frame (before : Option Stretch) (s : State) :
    (positionMoved before s).pending = s.pending ∧ (positionMoved before s).running = s.running ∧
    (positionMoved before s).station = s.station ∧ (positionMoved before s).seconds = s.seconds ∧
    (positionMoved before s).base = s.base ∧ (positionMoved before s).freeIx = s.freeIx ∧
    (positionMoved before s).pins = s.pins ∧ (positionMoved before s).cfg = s.cfg ∧
    (positionMoved before s).link.buf = s.link.buf ∧ (positionMoved before s).link.miso = s.link.miso ∧
    (positionMoved before s).link.enables = s.link.enables ∧ (positionMoved before s).conv = s.conv ∧
    (positionMoved before s).scale = s.scale ∧ (positionMoved before s).feed = s.feed ∧
    (positionMoved before s).dust.exposure = s.dust.exposure ∧ (positionMoved before s).qli.clash = s.qli.clash ∧
    (positionMoved before s).peers = s.peers ∧ (positionMoved before s).plan = s.plan ∧
    (positionMoved before s).spout = s.spout ∧ (positionMoved before s).cycle.auto = s.cycle.auto ∧
    (positionMoved before s).bills.stored = s.bills.stored ∧
    (positionMoved before s).bills.totals = s.bills.totals ∧ (positionMoved before s).bills.seq = s.bills.seq ∧
    (positionMoved before s).bills.entries = s.bills.entries ∧
    (positionMoved before s).bills.summary = s.bills.summary ∧
    (positionMoved before s).bills.openedAt = s.bills.openedAt ∧
    (positionMoved before s).qli.degraded = s.qli.degraded ∧
    (positionMoved before s).qli.winErrors = s.qli.winErrors ∧ (positionMoved before s).qli.rx = s.qli.rx := by
  unfold positionMoved; try dsimp only
  repeat' split
  all_goals (repeat' apply And.intro) <;> first | (simp; done) | rfl

@[simp] theorem moveSpanSent_frame (s : State) :
    (moveSpanSent s).pending = s.pending ∧ (moveSpanSent s).running = s.running ∧
    (moveSpanSent s).station = s.station ∧ (moveSpanSent s).seconds = s.seconds ∧ (moveSpanSent s).base = s.base ∧
    (moveSpanSent s).freeIx = s.freeIx ∧ (moveSpanSent s).pins = s.pins ∧ (moveSpanSent s).cfg = s.cfg ∧
    (moveSpanSent s).link.buf = s.link.buf ∧ (moveSpanSent s).link.miso = s.link.miso ∧
    (moveSpanSent s).link.enables = s.link.enables ∧ (moveSpanSent s).conv = s.conv ∧
    (moveSpanSent s).scale = s.scale ∧ (moveSpanSent s).feed = s.feed ∧
    (moveSpanSent s).dust.exposure = s.dust.exposure ∧ (moveSpanSent s).qli.clash = s.qli.clash ∧
    (moveSpanSent s).peers = s.peers ∧ (moveSpanSent s).plan = s.plan ∧ (moveSpanSent s).spout = s.spout ∧
    (moveSpanSent s).cycle.auto = s.cycle.auto ∧ (moveSpanSent s).bills.stored = s.bills.stored ∧
    (moveSpanSent s).bills.totals = s.bills.totals ∧ (moveSpanSent s).bills.seq = s.bills.seq ∧
    (moveSpanSent s).bills.entries = s.bills.entries ∧ (moveSpanSent s).bills.summary = s.bills.summary ∧
    (moveSpanSent s).bills.openedAt = s.bills.openedAt ∧ (moveSpanSent s).qli.degraded = s.qli.degraded ∧
    (moveSpanSent s).qli.winErrors = s.qli.winErrors ∧ (moveSpanSent s).qli.rx = s.qli.rx := by
  unfold moveSpanSent; try dsimp only
  repeat' split
  all_goals (repeat' apply And.intro) <;> first | (simp; done) | rfl

@[simp] theorem arrive_frame (s : State) :
    (arrive s).pending = s.pending ∧ (arrive s).running = s.running ∧ (arrive s).station = s.station ∧
    (arrive s).seconds = s.seconds ∧ (arrive s).base = s.base ∧ (arrive s).freeIx = s.freeIx ∧
    (arrive s).pins = s.pins ∧ (arrive s).cfg = s.cfg ∧ (arrive s).link.buf = s.link.buf ∧
    (arrive s).link.miso = s.link.miso ∧ (arrive s).link.enables = s.link.enables ∧ (arrive s).conv = s.conv ∧
    (arrive s).scale = s.scale ∧ (arrive s).feed = s.feed ∧ (arrive s).dust.exposure = s.dust.exposure ∧
    (arrive s).qli.clash = s.qli.clash ∧ (arrive s).peers = s.peers ∧ (arrive s).plan = s.plan ∧
    (arrive s).spout = s.spout ∧ (arrive s).cycle.auto = s.cycle.auto ∧ (arrive s).bills.stored = s.bills.stored ∧
    (arrive s).bills.totals = s.bills.totals ∧ (arrive s).bills.seq = s.bills.seq ∧
    (arrive s).bills.entries = s.bills.entries ∧ (arrive s).bills.summary = s.bills.summary ∧
    (arrive s).bills.openedAt = s.bills.openedAt ∧ (arrive s).qli.degraded = s.qli.degraded ∧
    (arrive s).qli.winErrors = s.qli.winErrors ∧ (arrive s).qli.rx = s.qli.rx := by
  unfold arrive; try dsimp only
  repeat' split
  all_goals (repeat' apply And.intro) <;> first | (simp; done) | rfl

@[simp] theorem endHold_frame (s : State) :
    (endHold s).pending = s.pending ∧ (endHold s).running = s.running ∧ (endHold s).station = s.station ∧
    (endHold s).seconds = s.seconds ∧ (endHold s).base = s.base ∧ (endHold s).freeIx = s.freeIx ∧
    (endHold s).pins = s.pins ∧ (endHold s).cfg = s.cfg ∧ (endHold s).link.buf = s.link.buf ∧
    (endHold s).link.miso = s.link.miso ∧ (endHold s).link.enables = s.link.enables ∧ (endHold s).conv = s.conv ∧
    (endHold s).scale = s.scale ∧ (endHold s).feed = s.feed ∧ (endHold s).dust.exposure = s.dust.exposure ∧
    (endHold s).qli.clash = s.qli.clash ∧ (endHold s).peers = s.peers ∧ (endHold s).plan = s.plan ∧
    (endHold s).spout = s.spout ∧ (endHold s).cycle.auto = s.cycle.auto ∧
    (endHold s).bills.stored = s.bills.stored ∧ (endHold s).bills.totals = s.bills.totals ∧
    (endHold s).bills.seq = s.bills.seq ∧ (endHold s).bills.entries = s.bills.entries ∧
    (endHold s).bills.summary = s.bills.summary ∧ (endHold s).bills.openedAt = s.bills.openedAt ∧
    (endHold s).qli.degraded = s.qli.degraded ∧ (endHold s).qli.winErrors = s.qli.winErrors ∧
    (endHold s).qli.rx = s.qli.rx := by
  unfold endHold; try dsimp only
  repeat' split
  all_goals (repeat' apply And.intro) <;> first | (simp; done) | rfl

@[simp] theorem beginHold_frame (s : State) :
    (beginHold s).pending = s.pending ∧ (beginHold s).running = s.running ∧ (beginHold s).station = s.station ∧
    (beginHold s).seconds = s.seconds ∧ (beginHold s).base = s.base ∧ (beginHold s).freeIx = s.freeIx ∧
    (beginHold s).pins = s.pins ∧ (beginHold s).cfg = s.cfg ∧ (beginHold s).link = s.link ∧
    (beginHold s).conv = s.conv ∧ (beginHold s).scale = s.scale ∧ (beginHold s).feed = s.feed ∧
    (beginHold s).dust = s.dust ∧ (beginHold s).qli = s.qli ∧ (beginHold s).peers = s.peers ∧
    (beginHold s).plan = s.plan ∧ (beginHold s).claim = s.claim ∧ (beginHold s).spout = s.spout ∧
    (beginHold s).cycle = s.cycle ∧ (beginHold s).bills = s.bills ∧ (beginHold s).travel.count = s.travel.count ∧
    (beginHold s).travel.referenced = s.travel.referenced := by
  unfold beginHold; try dsimp only
  repeat' split
  all_goals (repeat' apply And.intro) <;> first | (simp; done) | rfl

@[simp] theorem lateConflict_frame (s : State) :
    (lateConflict s).pending = s.pending ∧ (lateConflict s).running = s.running ∧
    (lateConflict s).station = s.station ∧ (lateConflict s).seconds = s.seconds ∧ (lateConflict s).base = s.base ∧
    (lateConflict s).freeIx = s.freeIx ∧ (lateConflict s).pins = s.pins ∧ (lateConflict s).cfg = s.cfg ∧
    (lateConflict s).link.buf = s.link.buf ∧ (lateConflict s).link.miso = s.link.miso ∧
    (lateConflict s).link.enables = s.link.enables ∧ (lateConflict s).conv = s.conv ∧
    (lateConflict s).scale = s.scale ∧ (lateConflict s).feed = s.feed ∧
    (lateConflict s).dust.exposure = s.dust.exposure ∧ (lateConflict s).qli.clash = s.qli.clash ∧
    (lateConflict s).peers = s.peers ∧ (lateConflict s).plan = s.plan ∧ (lateConflict s).spout = s.spout ∧
    (lateConflict s).cycle.auto = s.cycle.auto ∧ (lateConflict s).bills.stored = s.bills.stored ∧
    (lateConflict s).bills.totals = s.bills.totals ∧ (lateConflict s).bills.seq = s.bills.seq ∧
    (lateConflict s).bills.entries = s.bills.entries ∧ (lateConflict s).bills.summary = s.bills.summary ∧
    (lateConflict s).bills.openedAt = s.bills.openedAt ∧ (lateConflict s).qli.degraded = s.qli.degraded ∧
    (lateConflict s).qli.winErrors = s.qli.winErrors ∧ (lateConflict s).qli.rx = s.qli.rx := by
  unfold lateConflict; try dsimp only
  repeat' split
  all_goals (repeat' apply And.intro) <;> first | (simp; done) | rfl

@[simp] theorem onBlocking_frame (s : State) :
    (onBlocking s).pending = s.pending ∧ (onBlocking s).running = s.running ∧ (onBlocking s).station = s.station ∧
    (onBlocking s).seconds = s.seconds ∧ (onBlocking s).base = s.base ∧ (onBlocking s).freeIx = s.freeIx ∧
    (onBlocking s).pins = s.pins ∧ (onBlocking s).cfg = s.cfg ∧ (onBlocking s).link.buf = s.link.buf ∧
    (onBlocking s).link.miso = s.link.miso ∧ (onBlocking s).link.enables = s.link.enables ∧
    (onBlocking s).conv = s.conv ∧ (onBlocking s).scale = s.scale ∧ (onBlocking s).feed = s.feed ∧
    (onBlocking s).dust.exposure = s.dust.exposure ∧ (onBlocking s).qli.clash = s.qli.clash ∧
    (onBlocking s).peers = s.peers ∧ (onBlocking s).plan = s.plan ∧ (onBlocking s).spout = s.spout ∧
    (onBlocking s).cycle.auto = s.cycle.auto ∧ (onBlocking s).bills.stored = s.bills.stored ∧
    (onBlocking s).bills.totals = s.bills.totals ∧ (onBlocking s).bills.seq = s.bills.seq ∧
    (onBlocking s).bills.entries = s.bills.entries ∧ (onBlocking s).bills.summary = s.bills.summary ∧
    (onBlocking s).bills.openedAt = s.bills.openedAt ∧ (onBlocking s).qli.degraded = s.qli.degraded ∧
    (onBlocking s).qli.winErrors = s.qli.winErrors ∧ (onBlocking s).qli.rx = s.qli.rx := by
  unfold onBlocking; try dsimp only
  repeat' split
  all_goals (repeat' apply And.intro) <;> first | (simp; done) | rfl

@[simp] theorem recheckWaiting_frame (s : State) :
    (recheckWaiting s).pending = s.pending ∧ (recheckWaiting s).running = s.running ∧
    (recheckWaiting s).station = s.station ∧ (recheckWaiting s).seconds = s.seconds ∧
    (recheckWaiting s).base = s.base ∧ (recheckWaiting s).freeIx = s.freeIx ∧ (recheckWaiting s).pins = s.pins ∧
    (recheckWaiting s).cfg = s.cfg ∧ (recheckWaiting s).link.buf = s.link.buf ∧
    (recheckWaiting s).link.miso = s.link.miso ∧ (recheckWaiting s).link.enables = s.link.enables ∧
    (recheckWaiting s).conv = s.conv ∧ (recheckWaiting s).scale = s.scale ∧ (recheckWaiting s).feed = s.feed ∧
    (recheckWaiting s).dust.exposure = s.dust.exposure ∧ (recheckWaiting s).qli.clash = s.qli.clash ∧
    (recheckWaiting s).peers = s.peers ∧ (recheckWaiting s).plan = s.plan ∧ (recheckWaiting s).spout = s.spout ∧
    (recheckWaiting s).cycle.auto = s.cycle.auto ∧ (recheckWaiting s).bills.stored = s.bills.stored ∧
    (recheckWaiting s).bills.totals = s.bills.totals ∧ (recheckWaiting s).bills.seq = s.bills.seq ∧
    (recheckWaiting s).bills.entries = s.bills.entries ∧ (recheckWaiting s).bills.summary = s.bills.summary ∧
    (recheckWaiting s).bills.openedAt = s.bills.openedAt ∧ (recheckWaiting s).qli.degraded = s.qli.degraded ∧
    (recheckWaiting s).qli.winErrors = s.qli.winErrors ∧ (recheckWaiting s).qli.rx = s.qli.rx := by
  unfold recheckWaiting; try dsimp only
  repeat' split
  all_goals (repeat' apply And.intro) <;> first | (simp; done) | rfl

@[simp] theorem atRest_frame (s : State) :
    (atRest s).1.pending = s.pending ∧ (atRest s).1.running = s.running ∧ (atRest s).1.station = s.station ∧
    (atRest s).1.seconds = s.seconds ∧ (atRest s).1.base = s.base ∧ (atRest s).1.freeIx = s.freeIx ∧
    (atRest s).1.pins = s.pins ∧ (atRest s).1.cfg = s.cfg ∧ (atRest s).1.link.buf = s.link.buf ∧
    (atRest s).1.link.miso = s.link.miso ∧ (atRest s).1.link.enables = s.link.enables ∧ (atRest s).1.conv = s.conv ∧
    (atRest s).1.scale = s.scale ∧ (atRest s).1.feed = s.feed ∧ (atRest s).1.dust.exposure = s.dust.exposure ∧
    (atRest s).1.qli.clash = s.qli.clash ∧ (atRest s).1.peers = s.peers ∧ (atRest s).1.plan = s.plan ∧
    (atRest s).1.spout = s.spout ∧ (atRest s).1.cycle.auto = s.cycle.auto ∧
    (atRest s).1.bills.stored = s.bills.stored ∧ (atRest s).1.bills.totals = s.bills.totals ∧
    (atRest s).1.bills.seq = s.bills.seq ∧ (atRest s).1.bills.entries = s.bills.entries ∧
    (atRest s).1.bills.summary = s.bills.summary ∧ (atRest s).1.bills.openedAt = s.bills.openedAt ∧
    (atRest s).1.qli.degraded = s.qli.degraded ∧ (atRest s).1.qli.winErrors = s.qli.winErrors ∧
    (atRest s).1.qli.rx = s.qli.rx := by
  unfold atRest; try dsimp only
  repeat' split
  all_goals (repeat' apply And.intro) <;> first | (simp; done) | rfl

@[simp] theorem handClose_frame (r : ClaimRec) (f : Frame) (s : State) :
    (handClose r f s).pending = s.pending ∧ (handClose r f s).running = s.running ∧
    (handClose r f s).station = s.station ∧ (handClose r f s).seconds = s.seconds ∧
    (handClose r f s).base = s.base ∧ (handClose r f s).freeIx = s.freeIx ∧ (handClose r f s).pins = s.pins ∧
    (handClose r f s).cfg = s.cfg ∧ (handClose r f s).link.buf = s.link.buf ∧
    (handClose r f s).link.miso = s.link.miso ∧ (handClose r f s).link.enables = s.link.enables ∧
    (handClose r f s).conv = s.conv ∧ (handClose r f s).scale = s.scale ∧ (handClose r f s).feed = s.feed ∧
    (handClose r f s).dust.exposure = s.dust.exposure ∧ (handClose r f s).qli.clash = s.qli.clash ∧
    (handClose r f s).peers = s.peers ∧ (handClose r f s).plan = s.plan ∧ (handClose r f s).spout = s.spout ∧
    (handClose r f s).cycle.auto = s.cycle.auto ∧ (handClose r f s).bills.stored = s.bills.stored ∧
    (handClose r f s).bills.totals = s.bills.totals ∧ (handClose r f s).bills.seq = s.bills.seq ∧
    (handClose r f s).bills.entries = s.bills.entries ∧ (handClose r f s).bills.summary = s.bills.summary ∧
    (handClose r f s).bills.openedAt = s.bills.openedAt ∧ (handClose r f s).travel.count = s.travel.count ∧
    (handClose r f s).travel.referenced = s.travel.referenced ∧ (handClose r f s).qli.degraded = s.qli.degraded ∧
    (handClose r f s).qli.winErrors = s.qli.winErrors ∧ (handClose r f s).qli.rx = s.qli.rx := by
  unfold handClose; try dsimp only
  repeat' split
  all_goals (repeat' apply And.intro) <;> first | (simp; done) | rfl

@[simp] theorem endClaim_frame (o : CloseOutcome) (s : State) :
    (endClaim o s).pending = s.pending ∧ (endClaim o s).running = s.running ∧ (endClaim o s).station = s.station ∧
    (endClaim o s).seconds = s.seconds ∧ (endClaim o s).base = s.base ∧ (endClaim o s).freeIx = s.freeIx ∧
    (endClaim o s).pins = s.pins ∧ (endClaim o s).cfg = s.cfg ∧ (endClaim o s).link.buf = s.link.buf ∧
    (endClaim o s).link.miso = s.link.miso ∧ (endClaim o s).link.enables = s.link.enables ∧
    (endClaim o s).conv = s.conv ∧ (endClaim o s).scale = s.scale ∧ (endClaim o s).feed = s.feed ∧
    (endClaim o s).dust.exposure = s.dust.exposure ∧ (endClaim o s).qli.clash = s.qli.clash ∧
    (endClaim o s).peers = s.peers ∧ (endClaim o s).plan = s.plan ∧ (endClaim o s).spout = s.spout ∧
    (endClaim o s).cycle.auto = s.cycle.auto ∧ (endClaim o s).bills.stored = s.bills.stored ∧
    (endClaim o s).bills.totals = s.bills.totals ∧ (endClaim o s).bills.seq = s.bills.seq ∧
    (endClaim o s).bills.entries = s.bills.entries ∧ (endClaim o s).bills.summary = s.bills.summary ∧
    (endClaim o s).bills.openedAt = s.bills.openedAt ∧ (endClaim o s).travel.count = s.travel.count ∧
    (endClaim o s).travel.referenced = s.travel.referenced ∧ (endClaim o s).qli.degraded = s.qli.degraded ∧
    (endClaim o s).qli.winErrors = s.qli.winErrors ∧ (endClaim o s).qli.rx = s.qli.rx := by
  unfold endClaim; try dsimp only
  repeat' split
  all_goals (repeat' apply And.intro) <;> first | (simp; done) | rfl

@[simp] theorem enterWithdrawing_frame (s : State) :
    (enterWithdrawing s).pending = s.pending ∧ (enterWithdrawing s).running = s.running ∧
    (enterWithdrawing s).station = s.station ∧ (enterWithdrawing s).seconds = s.seconds ∧
    (enterWithdrawing s).base = s.base ∧ (enterWithdrawing s).freeIx = s.freeIx ∧
    (enterWithdrawing s).pins = s.pins ∧ (enterWithdrawing s).cfg = s.cfg ∧
    (enterWithdrawing s).link.buf = s.link.buf ∧ (enterWithdrawing s).link.miso = s.link.miso ∧
    (enterWithdrawing s).link.enables = s.link.enables ∧ (enterWithdrawing s).conv = s.conv ∧
    (enterWithdrawing s).scale = s.scale ∧ (enterWithdrawing s).feed = s.feed ∧
    (enterWithdrawing s).dust.exposure = s.dust.exposure ∧ (enterWithdrawing s).qli.clash = s.qli.clash ∧
    (enterWithdrawing s).peers = s.peers ∧ (enterWithdrawing s).plan = s.plan ∧
    (enterWithdrawing s).cycle.auto = s.cycle.auto ∧ (enterWithdrawing s).bills.stored = s.bills.stored ∧
    (enterWithdrawing s).bills.totals = s.bills.totals ∧ (enterWithdrawing s).bills.seq = s.bills.seq ∧
    (enterWithdrawing s).bills.entries = s.bills.entries ∧ (enterWithdrawing s).bills.summary = s.bills.summary ∧
    (enterWithdrawing s).bills.openedAt = s.bills.openedAt ∧ (enterWithdrawing s).qli.degraded = s.qli.degraded ∧
    (enterWithdrawing s).qli.winErrors = s.qli.winErrors ∧ (enterWithdrawing s).qli.rx = s.qli.rx := by
  unfold enterWithdrawing; try dsimp only
  repeat' split
  all_goals (repeat' apply And.intro) <;> first | (simp; done) | rfl

@[simp] theorem markEnding_frame (s : State) :
    (markEnding s).pending = s.pending ∧ (markEnding s).running = s.running ∧ (markEnding s).station = s.station ∧
    (markEnding s).seconds = s.seconds ∧ (markEnding s).base = s.base ∧ (markEnding s).freeIx = s.freeIx ∧
    (markEnding s).pins = s.pins ∧ (markEnding s).cfg = s.cfg ∧ (markEnding s).link = s.link ∧
    (markEnding s).conv = s.conv ∧ (markEnding s).scale = s.scale ∧ (markEnding s).feed = s.feed ∧
    (markEnding s).dust = s.dust ∧ (markEnding s).qli = s.qli ∧ (markEnding s).peers = s.peers ∧
    (markEnding s).plan = s.plan ∧ (markEnding s).claim = s.claim ∧ (markEnding s).travel = s.travel ∧
    (markEnding s).spout = s.spout ∧ (markEnding s).cycle.auto = s.cycle.auto ∧ (markEnding s).bills = s.bills := by
  unfold markEnding; try dsimp only
  repeat' split
  all_goals (repeat' apply And.intro) <;> first | (simp; done) | rfl

@[simp] theorem releaseAndWithdraw_frame (s : State) :
    (releaseAndWithdraw s).pending = s.pending ∧ (releaseAndWithdraw s).running = s.running ∧
    (releaseAndWithdraw s).station = s.station ∧ (releaseAndWithdraw s).seconds = s.seconds ∧
    (releaseAndWithdraw s).base = s.base ∧ (releaseAndWithdraw s).freeIx = s.freeIx ∧
    (releaseAndWithdraw s).pins = s.pins ∧ (releaseAndWithdraw s).cfg = s.cfg ∧
    (releaseAndWithdraw s).link.buf = s.link.buf ∧ (releaseAndWithdraw s).link.miso = s.link.miso ∧
    (releaseAndWithdraw s).link.enables = s.link.enables ∧ (releaseAndWithdraw s).conv = s.conv ∧
    (releaseAndWithdraw s).scale = s.scale ∧ (releaseAndWithdraw s).feed = s.feed ∧
    (releaseAndWithdraw s).dust.exposure = s.dust.exposure ∧ (releaseAndWithdraw s).qli.clash = s.qli.clash ∧
    (releaseAndWithdraw s).peers = s.peers ∧ (releaseAndWithdraw s).plan = s.plan ∧
    (releaseAndWithdraw s).cycle.auto = s.cycle.auto ∧ (releaseAndWithdraw s).bills.stored = s.bills.stored ∧
    (releaseAndWithdraw s).bills.totals = s.bills.totals ∧ (releaseAndWithdraw s).bills.seq = s.bills.seq ∧
    (releaseAndWithdraw s).bills.entries = s.bills.entries ∧
    (releaseAndWithdraw s).bills.summary = s.bills.summary ∧
    (releaseAndWithdraw s).bills.openedAt = s.bills.openedAt ∧
    (releaseAndWithdraw s).qli.degraded = s.qli.degraded ∧ (releaseAndWithdraw s).qli.winErrors = s.qli.winErrors ∧
    (releaseAndWithdraw s).qli.rx = s.qli.rx := by
  unfold releaseAndWithdraw; try dsimp only
  repeat' split
  all_goals (repeat' apply And.intro) <;> first | (simp; done) | rfl

@[simp] theorem startSettle_frame (o : SettleOutcome) (s : State) :
    (startSettle o s).pending = s.pending ∧ (startSettle o s).running = s.running ∧
    (startSettle o s).station = s.station ∧ (startSettle o s).seconds = s.seconds ∧
    (startSettle o s).base = s.base ∧ (startSettle o s).freeIx = s.freeIx ∧ (startSettle o s).pins = s.pins ∧
    (startSettle o s).cfg = s.cfg ∧ (startSettle o s).link = s.link ∧ (startSettle o s).conv = s.conv ∧
    (startSettle o s).scale = s.scale ∧ (startSettle o s).feed = s.feed ∧
    (startSettle o s).dust.exposure = s.dust.exposure ∧ (startSettle o s).qli = s.qli ∧
    (startSettle o s).peers = s.peers ∧ (startSettle o s).plan = s.plan ∧ (startSettle o s).claim = s.claim ∧
    (startSettle o s).travel = s.travel ∧ (startSettle o s).spout = s.spout ∧
    (startSettle o s).cycle.auto = s.cycle.auto ∧ (startSettle o s).bills = s.bills := by
  unfold startSettle; try dsimp only
  repeat' split
  all_goals (repeat' apply And.intro) <;> first | (simp; done) | rfl

@[simp] theorem withdrawPour_frame (s : State) :
    (withdrawPour s).pending = s.pending ∧ (withdrawPour s).running = s.running ∧
    (withdrawPour s).station = s.station ∧ (withdrawPour s).seconds = s.seconds ∧ (withdrawPour s).base = s.base ∧
    (withdrawPour s).freeIx = s.freeIx ∧ (withdrawPour s).pins = s.pins ∧ (withdrawPour s).cfg = s.cfg ∧
    (withdrawPour s).link.buf = s.link.buf ∧ (withdrawPour s).link.miso = s.link.miso ∧
    (withdrawPour s).link.enables = s.link.enables ∧ (withdrawPour s).conv = s.conv ∧
    (withdrawPour s).scale = s.scale ∧ (withdrawPour s).feed = s.feed ∧
    (withdrawPour s).dust.exposure = s.dust.exposure ∧ (withdrawPour s).qli.clash = s.qli.clash ∧
    (withdrawPour s).peers = s.peers ∧ (withdrawPour s).plan = s.plan ∧ (withdrawPour s).cycle.auto = s.cycle.auto ∧
    (withdrawPour s).bills.stored = s.bills.stored ∧ (withdrawPour s).bills.totals = s.bills.totals ∧
    (withdrawPour s).bills.seq = s.bills.seq ∧ (withdrawPour s).bills.entries = s.bills.entries ∧
    (withdrawPour s).bills.summary = s.bills.summary ∧ (withdrawPour s).bills.openedAt = s.bills.openedAt ∧
    (withdrawPour s).qli.degraded = s.qli.degraded ∧ (withdrawPour s).qli.winErrors = s.qli.winErrors ∧
    (withdrawPour s).qli.rx = s.qli.rx := by
  unfold withdrawPour; try dsimp only
  repeat' split
  all_goals (repeat' apply And.intro) <;> first | (simp; done) | rfl

@[simp] theorem recordHalt_frame (c : HaltCause) (s : State) :
    (recordHalt c s).pending = s.pending ∧ (recordHalt c s).running = s.running ∧
    (recordHalt c s).station = s.station ∧ (recordHalt c s).seconds = s.seconds ∧ (recordHalt c s).base = s.base ∧
    (recordHalt c s).freeIx = s.freeIx ∧ (recordHalt c s).pins = s.pins ∧ (recordHalt c s).cfg = s.cfg ∧
    (recordHalt c s).link = s.link ∧ (recordHalt c s).conv = s.conv ∧ (recordHalt c s).scale = s.scale ∧
    (recordHalt c s).feed = s.feed ∧ (recordHalt c s).dust = s.dust ∧ (recordHalt c s).qli = s.qli ∧
    (recordHalt c s).peers = s.peers ∧ (recordHalt c s).plan = s.plan ∧ (recordHalt c s).claim = s.claim ∧
    (recordHalt c s).travel = s.travel ∧ (recordHalt c s).spout = s.spout ∧
    (recordHalt c s).cycle.auto = s.cycle.auto ∧ (recordHalt c s).bills = s.bills := by
  unfold recordHalt; try dsimp only
  repeat' split
  all_goals (repeat' apply And.intro) <;> first | (simp; done) | rfl

@[simp] theorem enterHalted_frame (c : HaltCause) (s : State) :
    (enterHalted c s).pending = s.pending ∧ (enterHalted c s).running = s.running ∧
    (enterHalted c s).station = s.station ∧ (enterHalted c s).seconds = s.seconds ∧
    (enterHalted c s).base = s.base ∧ (enterHalted c s).freeIx = s.freeIx ∧ (enterHalted c s).pins = s.pins ∧
    (enterHalted c s).cfg = s.cfg ∧ (enterHalted c s).link.buf = s.link.buf ∧
    (enterHalted c s).link.miso = s.link.miso ∧ (enterHalted c s).link.enables = s.link.enables ∧
    (enterHalted c s).conv = s.conv ∧ (enterHalted c s).scale = s.scale ∧
    (enterHalted c s).dust.exposure = s.dust.exposure ∧ (enterHalted c s).qli.clash = s.qli.clash ∧
    (enterHalted c s).peers = s.peers ∧ (enterHalted c s).plan = s.plan ∧
    (enterHalted c s).cycle.auto = s.cycle.auto ∧ (enterHalted c s).bills.stored = s.bills.stored ∧
    (enterHalted c s).bills.totals = s.bills.totals ∧ (enterHalted c s).bills.seq = s.bills.seq ∧
    (enterHalted c s).bills.entries = s.bills.entries ∧ (enterHalted c s).bills.summary = s.bills.summary ∧
    (enterHalted c s).bills.openedAt = s.bills.openedAt ∧ (enterHalted c s).qli.degraded = s.qli.degraded ∧
    (enterHalted c s).qli.winErrors = s.qli.winErrors ∧ (enterHalted c s).qli.rx = s.qli.rx ∧
    (enterHalted c s).feed.setpoint = s.feed.setpoint ∧ (enterHalted c s).feed.staged = s.feed.staged := by
  unfold enterHalted; try dsimp only
  repeat' split
  all_goals (repeat' apply And.intro) <;> first | (simp; done) | rfl

@[simp] theorem addCause_frame (c : HaltCause) (s : State) :
    (addCause c s).pending = s.pending ∧ (addCause c s).running = s.running ∧ (addCause c s).station = s.station ∧
    (addCause c s).seconds = s.seconds ∧ (addCause c s).base = s.base ∧ (addCause c s).freeIx = s.freeIx ∧
    (addCause c s).pins = s.pins ∧ (addCause c s).cfg = s.cfg ∧ (addCause c s).link.buf = s.link.buf ∧
    (addCause c s).link.miso = s.link.miso ∧ (addCause c s).link.enables = s.link.enables ∧
    (addCause c s).conv = s.conv ∧ (addCause c s).scale = s.scale ∧ (addCause c s).feed = s.feed ∧
    (addCause c s).dust = s.dust ∧ (addCause c s).qli = s.qli ∧ (addCause c s).peers = s.peers ∧
    (addCause c s).plan = s.plan ∧ (addCause c s).claim = s.claim ∧ (addCause c s).travel = s.travel ∧
    (addCause c s).spout = s.spout ∧ (addCause c s).cycle.auto = s.cycle.auto ∧ (addCause c s).bills = s.bills := by
  unfold addCause; try dsimp only
  repeat' split
  all_goals (repeat' apply And.intro) <;> first | (simp; done) | rfl

@[simp] theorem raiseHalt_frame (c : HaltCause) (s : State) :
    (raiseHalt c s).pending = s.pending ∧ (raiseHalt c s).running = s.running ∧
    (raiseHalt c s).station = s.station ∧ (raiseHalt c s).seconds = s.seconds ∧ (raiseHalt c s).base = s.base ∧
    (raiseHalt c s).freeIx = s.freeIx ∧ (raiseHalt c s).pins = s.pins ∧ (raiseHalt c s).cfg = s.cfg ∧
    (raiseHalt c s).link.buf = s.link.buf ∧ (raiseHalt c s).link.miso = s.link.miso ∧
    (raiseHalt c s).link.enables = s.link.enables ∧ (raiseHalt c s).conv = s.conv ∧
    (raiseHalt c s).scale = s.scale ∧ (raiseHalt c s).dust.exposure = s.dust.exposure ∧
    (raiseHalt c s).qli.clash = s.qli.clash ∧ (raiseHalt c s).peers = s.peers ∧ (raiseHalt c s).plan = s.plan ∧
    (raiseHalt c s).cycle.auto = s.cycle.auto ∧ (raiseHalt c s).bills.stored = s.bills.stored ∧
    (raiseHalt c s).bills.totals = s.bills.totals ∧ (raiseHalt c s).bills.seq = s.bills.seq ∧
    (raiseHalt c s).bills.entries = s.bills.entries ∧ (raiseHalt c s).bills.summary = s.bills.summary ∧
    (raiseHalt c s).bills.openedAt = s.bills.openedAt ∧ (raiseHalt c s).qli.degraded = s.qli.degraded ∧
    (raiseHalt c s).qli.winErrors = s.qli.winErrors ∧ (raiseHalt c s).qli.rx = s.qli.rx ∧
    (raiseHalt c s).feed.setpoint = s.feed.setpoint ∧ (raiseHalt c s).feed.staged = s.feed.staged := by
  unfold raiseHalt; try dsimp only
  repeat' split
  all_goals (repeat' apply And.intro) <;> first | (simp; done) | rfl

@[simp] theorem haltAtRun_frame (c : HaltCause) (s : State) :
    (haltAtRun c s).pending = s.pending ∧ (haltAtRun c s).running = s.running ∧
    (haltAtRun c s).station = s.station ∧ (haltAtRun c s).seconds = s.seconds ∧ (haltAtRun c s).base = s.base ∧
    (haltAtRun c s).freeIx = s.freeIx ∧ (haltAtRun c s).pins = s.pins ∧ (haltAtRun c s).cfg = s.cfg ∧
    (haltAtRun c s).link.buf = s.link.buf ∧ (haltAtRun c s).link.miso = s.link.miso ∧
    (haltAtRun c s).link.enables = s.link.enables ∧ (haltAtRun c s).conv = s.conv ∧
    (haltAtRun c s).scale = s.scale ∧ (haltAtRun c s).dust.exposure = s.dust.exposure ∧
    (haltAtRun c s).qli.clash = s.qli.clash ∧ (haltAtRun c s).peers = s.peers ∧ (haltAtRun c s).plan = s.plan ∧
    (haltAtRun c s).cycle.auto = s.cycle.auto ∧ (haltAtRun c s).bills.stored = s.bills.stored ∧
    (haltAtRun c s).bills.totals = s.bills.totals ∧ (haltAtRun c s).bills.seq = s.bills.seq ∧
    (haltAtRun c s).bills.entries = s.bills.entries ∧ (haltAtRun c s).bills.summary = s.bills.summary ∧
    (haltAtRun c s).bills.openedAt = s.bills.openedAt ∧ (haltAtRun c s).qli.degraded = s.qli.degraded ∧
    (haltAtRun c s).qli.winErrors = s.qli.winErrors ∧ (haltAtRun c s).qli.rx = s.qli.rx ∧
    (haltAtRun c s).feed.setpoint = s.feed.setpoint ∧ (haltAtRun c s).feed.staged = s.feed.staged := by
  unfold haltAtRun; try dsimp only
  repeat' split
  all_goals (repeat' apply And.intro) <;> first | (simp; done) | rfl

@[simp] theorem removeCause_frame (c : HaltCause) (s : State) :
    (removeCause c s).pending = s.pending ∧ (removeCause c s).running = s.running ∧
    (removeCause c s).station = s.station ∧ (removeCause c s).seconds = s.seconds ∧
    (removeCause c s).base = s.base ∧ (removeCause c s).freeIx = s.freeIx ∧ (removeCause c s).pins = s.pins ∧
    (removeCause c s).cfg = s.cfg ∧ (removeCause c s).link = s.link ∧ (removeCause c s).conv = s.conv ∧
    (removeCause c s).scale = s.scale ∧ (removeCause c s).feed = s.feed ∧ (removeCause c s).dust = s.dust ∧
    (removeCause c s).qli = s.qli ∧ (removeCause c s).peers = s.peers ∧ (removeCause c s).plan = s.plan ∧
    (removeCause c s).claim = s.claim ∧ (removeCause c s).travel = s.travel ∧ (removeCause c s).spout = s.spout ∧
    (removeCause c s).cycle.auto = s.cycle.auto ∧ (removeCause c s).bills = s.bills := by
  unfold removeCause; try dsimp only
  repeat' split
  all_goals (repeat' apply And.intro) <;> first | (simp; done) | rfl

@[simp] theorem beltStallTest_frame (s : State) :
    (beltStallTest s).pending = s.pending ∧ (beltStallTest s).running = s.running ∧
    (beltStallTest s).station = s.station ∧ (beltStallTest s).seconds = s.seconds ∧
    (beltStallTest s).base = s.base ∧ (beltStallTest s).freeIx = s.freeIx ∧ (beltStallTest s).pins = s.pins ∧
    (beltStallTest s).cfg = s.cfg ∧ (beltStallTest s).link.buf = s.link.buf ∧
    (beltStallTest s).link.miso = s.link.miso ∧ (beltStallTest s).link.enables = s.link.enables ∧
    (beltStallTest s).conv = s.conv ∧ (beltStallTest s).scale = s.scale ∧
    (beltStallTest s).dust.exposure = s.dust.exposure ∧ (beltStallTest s).qli.clash = s.qli.clash ∧
    (beltStallTest s).peers = s.peers ∧ (beltStallTest s).plan = s.plan ∧
    (beltStallTest s).cycle.auto = s.cycle.auto ∧ (beltStallTest s).bills.stored = s.bills.stored ∧
    (beltStallTest s).bills.totals = s.bills.totals ∧ (beltStallTest s).bills.seq = s.bills.seq ∧
    (beltStallTest s).bills.entries = s.bills.entries ∧ (beltStallTest s).bills.summary = s.bills.summary ∧
    (beltStallTest s).bills.openedAt = s.bills.openedAt ∧ (beltStallTest s).qli.degraded = s.qli.degraded ∧
    (beltStallTest s).qli.winErrors = s.qli.winErrors ∧ (beltStallTest s).qli.rx = s.qli.rx ∧
    (beltStallTest s).feed.setpoint = s.feed.setpoint ∧ (beltStallTest s).feed.staged = s.feed.staged := by
  unfold beltStallTest; try dsimp only
  repeat' split
  all_goals (repeat' apply And.intro) <;> first | (simp; done) | rfl

@[simp] theorem tellFault_frame (before : TravelState) (s : State) :
    (tellFault before s).pending = s.pending ∧ (tellFault before s).running = s.running ∧
    (tellFault before s).station = s.station ∧ (tellFault before s).seconds = s.seconds ∧
    (tellFault before s).base = s.base ∧ (tellFault before s).freeIx = s.freeIx ∧
    (tellFault before s).pins = s.pins ∧ (tellFault before s).cfg = s.cfg ∧
    (tellFault before s).link.buf = s.link.buf ∧ (tellFault before s).link.miso = s.link.miso ∧
    (tellFault before s).link.enables = s.link.enables ∧ (tellFault before s).conv = s.conv ∧
    (tellFault before s).scale = s.scale ∧ (tellFault before s).dust.exposure = s.dust.exposure ∧
    (tellFault before s).qli.clash = s.qli.clash ∧ (tellFault before s).peers = s.peers ∧
    (tellFault before s).plan = s.plan ∧ (tellFault before s).cycle.auto = s.cycle.auto ∧
    (tellFault before s).bills.stored = s.bills.stored ∧ (tellFault before s).bills.totals = s.bills.totals ∧
    (tellFault before s).bills.seq = s.bills.seq ∧ (tellFault before s).bills.entries = s.bills.entries ∧
    (tellFault before s).bills.summary = s.bills.summary ∧ (tellFault before s).bills.openedAt = s.bills.openedAt ∧
    (tellFault before s).qli.degraded = s.qli.degraded ∧ (tellFault before s).qli.winErrors = s.qli.winErrors ∧
    (tellFault before s).qli.rx = s.qli.rx ∧ (tellFault before s).feed.setpoint = s.feed.setpoint ∧
    (tellFault before s).feed.staged = s.feed.staged := by
  unfold tellFault; try dsimp only
  repeat' split
  all_goals (repeat' apply And.intro) <;> first | (simp; done) | rfl

@[simp] theorem enterPour_frame (s : State) :
    (enterPour s).pending = s.pending ∧ (enterPour s).running = s.running ∧ (enterPour s).station = s.station ∧
    (enterPour s).seconds = s.seconds ∧ (enterPour s).base = s.base ∧ (enterPour s).freeIx = s.freeIx ∧
    (enterPour s).pins = s.pins ∧ (enterPour s).cfg = s.cfg ∧ (enterPour s).link.buf = s.link.buf ∧
    (enterPour s).link.miso = s.link.miso ∧ (enterPour s).link.enables = s.link.enables ∧
    (enterPour s).conv = s.conv ∧ (enterPour s).scale = s.scale ∧ (enterPour s).dust.exposure = s.dust.exposure ∧
    (enterPour s).qli.clash = s.qli.clash ∧ (enterPour s).peers = s.peers ∧ (enterPour s).plan = s.plan ∧
    (enterPour s).cycle.auto = s.cycle.auto ∧ (enterPour s).bills.stored = s.bills.stored ∧
    (enterPour s).bills.totals = s.bills.totals ∧ (enterPour s).bills.seq = s.bills.seq ∧
    (enterPour s).bills.entries = s.bills.entries ∧ (enterPour s).bills.summary = s.bills.summary ∧
    (enterPour s).bills.openedAt = s.bills.openedAt ∧ (enterPour s).qli.degraded = s.qli.degraded ∧
    (enterPour s).qli.winErrors = s.qli.winErrors ∧ (enterPour s).qli.rx = s.qli.rx ∧
    (enterPour s).feed.setpoint = s.feed.setpoint ∧ (enterPour s).feed.staged = s.feed.staged := by
  unfold enterPour; try dsimp only
  repeat' split
  all_goals (repeat' apply And.intro) <;> first | (simp; done) | rfl

@[simp] theorem recordPauses_frame (s : State) :
    (recordPauses s).pending = s.pending ∧ (recordPauses s).running = s.running ∧
    (recordPauses s).station = s.station ∧ (recordPauses s).seconds = s.seconds ∧ (recordPauses s).base = s.base ∧
    (recordPauses s).freeIx = s.freeIx ∧ (recordPauses s).pins = s.pins ∧ (recordPauses s).cfg = s.cfg ∧
    (recordPauses s).link = s.link ∧ (recordPauses s).conv = s.conv ∧ (recordPauses s).scale = s.scale ∧
    (recordPauses s).feed = s.feed ∧ (recordPauses s).dust = s.dust ∧ (recordPauses s).qli = s.qli ∧
    (recordPauses s).peers = s.peers ∧ (recordPauses s).plan = s.plan ∧ (recordPauses s).claim = s.claim ∧
    (recordPauses s).travel = s.travel ∧ (recordPauses s).spout = s.spout ∧
    (recordPauses s).cycle.auto = s.cycle.auto ∧ (recordPauses s).bills = s.bills := by
  unfold recordPauses; try dsimp only
  repeat' split
  all_goals (repeat' apply And.intro) <;> first | (simp; done) | rfl

@[simp] theorem pauseUpdate_frame (s : State) :
    (pauseUpdate s).pending = s.pending ∧ (pauseUpdate s).running = s.running ∧
    (pauseUpdate s).station = s.station ∧ (pauseUpdate s).seconds = s.seconds ∧ (pauseUpdate s).base = s.base ∧
    (pauseUpdate s).freeIx = s.freeIx ∧ (pauseUpdate s).pins = s.pins ∧ (pauseUpdate s).cfg = s.cfg ∧
    (pauseUpdate s).link.buf = s.link.buf ∧ (pauseUpdate s).link.miso = s.link.miso ∧
    (pauseUpdate s).link.enables = s.link.enables ∧ (pauseUpdate s).conv = s.conv ∧
    (pauseUpdate s).scale = s.scale ∧ (pauseUpdate s).dust.exposure = s.dust.exposure ∧
    (pauseUpdate s).qli.clash = s.qli.clash ∧ (pauseUpdate s).peers = s.peers ∧ (pauseUpdate s).plan = s.plan ∧
    (pauseUpdate s).cycle.auto = s.cycle.auto ∧ (pauseUpdate s).bills.stored = s.bills.stored ∧
    (pauseUpdate s).bills.totals = s.bills.totals ∧ (pauseUpdate s).bills.seq = s.bills.seq ∧
    (pauseUpdate s).bills.entries = s.bills.entries ∧ (pauseUpdate s).bills.summary = s.bills.summary ∧
    (pauseUpdate s).bills.openedAt = s.bills.openedAt ∧ (pauseUpdate s).qli.degraded = s.qli.degraded ∧
    (pauseUpdate s).qli.winErrors = s.qli.winErrors ∧ (pauseUpdate s).qli.rx = s.qli.rx ∧
    (pauseUpdate s).feed.setpoint = s.feed.setpoint ∧ (pauseUpdate s).feed.staged = s.feed.staged := by
  unfold pauseUpdate; try dsimp only
  repeat' split
  all_goals (repeat' apply And.intro) <;> first | (simp; done) | rfl

@[simp] theorem spillTold_frame (s : State) :
    (spillTold s).pending = s.pending ∧ (spillTold s).running = s.running ∧ (spillTold s).station = s.station ∧
    (spillTold s).seconds = s.seconds ∧ (spillTold s).base = s.base ∧ (spillTold s).freeIx = s.freeIx ∧
    (spillTold s).pins = s.pins ∧ (spillTold s).cfg = s.cfg ∧ (spillTold s).link = s.link ∧
    (spillTold s).conv = s.conv ∧ (spillTold s).scale = s.scale ∧ (spillTold s).feed = s.feed ∧
    (spillTold s).dust.exposure = s.dust.exposure ∧ (spillTold s).qli = s.qli ∧ (spillTold s).peers = s.peers ∧
    (spillTold s).plan = s.plan ∧ (spillTold s).claim = s.claim ∧ (spillTold s).travel = s.travel ∧
    (spillTold s).spout = s.spout ∧ (spillTold s).cycle.auto = s.cycle.auto ∧ (spillTold s).bills = s.bills := by
  unfold spillTold; try dsimp only
  repeat' split
  all_goals (repeat' apply And.intro) <;> first | (simp; done) | rfl

@[simp] theorem atHatch_frame (s : State) :
    (atHatch s).pending = s.pending ∧ (atHatch s).running = s.running ∧ (atHatch s).station = s.station ∧
    (atHatch s).seconds = s.seconds ∧ (atHatch s).base = s.base ∧ (atHatch s).freeIx = s.freeIx ∧
    (atHatch s).pins = s.pins ∧ (atHatch s).cfg = s.cfg ∧ (atHatch s).link.buf = s.link.buf ∧
    (atHatch s).link.miso = s.link.miso ∧ (atHatch s).link.enables = s.link.enables ∧ (atHatch s).conv = s.conv ∧
    (atHatch s).scale.total = s.scale.total ∧ (atHatch s).scale.stray = s.scale.stray ∧
    (atHatch s).scale.closed = s.scale.closed ∧ (atHatch s).scale.openGrams = s.scale.openGrams ∧
    (atHatch s).scale.pourOpen = s.scale.pourOpen ∧ (atHatch s).scale.saturated = s.scale.saturated ∧
    (atHatch s).scale.calRunning = s.scale.calRunning ∧ (atHatch s).scale.snapshot = s.scale.snapshot ∧
    (atHatch s).dust.exposure = s.dust.exposure ∧ (atHatch s).qli.clash = s.qli.clash ∧
    (atHatch s).peers = s.peers ∧ (atHatch s).plan = s.plan ∧ (atHatch s).cycle.auto = s.cycle.auto ∧
    (atHatch s).bills.stored = s.bills.stored ∧ (atHatch s).bills.totals = s.bills.totals ∧
    (atHatch s).bills.seq = s.bills.seq ∧ (atHatch s).bills.entries = s.bills.entries ∧
    (atHatch s).bills.summary = s.bills.summary ∧ (atHatch s).bills.openedAt = s.bills.openedAt ∧
    (atHatch s).qli.degraded = s.qli.degraded ∧ (atHatch s).qli.winErrors = s.qli.winErrors ∧
    (atHatch s).qli.rx = s.qli.rx ∧ (atHatch s).feed.setpoint = s.feed.setpoint ∧
    (atHatch s).feed.staged = s.feed.staged := by
  unfold atHatch; try dsimp only
  repeat' split
  all_goals (repeat' apply And.intro) <;> first | (simp; done) | rfl

@[simp] theorem moveToHatch_frame (s : State) :
    (moveToHatch s).pending = s.pending ∧ (moveToHatch s).running = s.running ∧
    (moveToHatch s).station = s.station ∧ (moveToHatch s).seconds = s.seconds ∧ (moveToHatch s).base = s.base ∧
    (moveToHatch s).freeIx = s.freeIx ∧ (moveToHatch s).pins = s.pins ∧ (moveToHatch s).cfg = s.cfg ∧
    (moveToHatch s).link.buf = s.link.buf ∧ (moveToHatch s).link.miso = s.link.miso ∧
    (moveToHatch s).link.enables = s.link.enables ∧ (moveToHatch s).conv = s.conv ∧
    (moveToHatch s).scale = s.scale ∧ (moveToHatch s).feed = s.feed ∧
    (moveToHatch s).dust.exposure = s.dust.exposure ∧ (moveToHatch s).qli.clash = s.qli.clash ∧
    (moveToHatch s).peers = s.peers ∧ (moveToHatch s).plan = s.plan ∧ (moveToHatch s).cycle.auto = s.cycle.auto ∧
    (moveToHatch s).bills.stored = s.bills.stored ∧ (moveToHatch s).bills.totals = s.bills.totals ∧
    (moveToHatch s).bills.seq = s.bills.seq ∧ (moveToHatch s).bills.entries = s.bills.entries ∧
    (moveToHatch s).bills.summary = s.bills.summary ∧ (moveToHatch s).bills.openedAt = s.bills.openedAt ∧
    (moveToHatch s).qli.degraded = s.qli.degraded ∧ (moveToHatch s).qli.winErrors = s.qli.winErrors ∧
    (moveToHatch s).qli.rx = s.qli.rx := by
  unfold moveToHatch; try dsimp only
  repeat' split
  all_goals (repeat' apply And.intro) <;> first | (simp; done) | rfl

@[simp] theorem positionAct_frame (s : State) :
    (positionAct s).pending = s.pending ∧ (positionAct s).running = s.running ∧
    (positionAct s).station = s.station ∧ (positionAct s).seconds = s.seconds ∧ (positionAct s).base = s.base ∧
    (positionAct s).freeIx = s.freeIx ∧ (positionAct s).pins = s.pins ∧ (positionAct s).cfg = s.cfg ∧
    (positionAct s).link.buf = s.link.buf ∧ (positionAct s).link.miso = s.link.miso ∧
    (positionAct s).link.enables = s.link.enables ∧ (positionAct s).conv = s.conv ∧
    (positionAct s).scale = s.scale ∧ (positionAct s).feed = s.feed ∧
    (positionAct s).dust.exposure = s.dust.exposure ∧ (positionAct s).qli.clash = s.qli.clash ∧
    (positionAct s).peers = s.peers ∧ (positionAct s).plan = s.plan ∧ (positionAct s).cycle.auto = s.cycle.auto ∧
    (positionAct s).bills.stored = s.bills.stored ∧ (positionAct s).bills.totals = s.bills.totals ∧
    (positionAct s).bills.seq = s.bills.seq ∧ (positionAct s).bills.entries = s.bills.entries ∧
    (positionAct s).bills.summary = s.bills.summary ∧ (positionAct s).bills.openedAt = s.bills.openedAt ∧
    (positionAct s).qli.degraded = s.qli.degraded ∧ (positionAct s).qli.winErrors = s.qli.winErrors ∧
    (positionAct s).qli.rx = s.qli.rx := by
  unfold positionAct; try dsimp only
  repeat' split
  all_goals (repeat' apply And.intro) <;> first | (simp; done) | rfl

@[simp] theorem cycleArrived_frame (s : State) :
    (cycleArrived s).pending = s.pending ∧ (cycleArrived s).running = s.running ∧
    (cycleArrived s).station = s.station ∧ (cycleArrived s).seconds = s.seconds ∧ (cycleArrived s).base = s.base ∧
    (cycleArrived s).freeIx = s.freeIx ∧ (cycleArrived s).pins = s.pins ∧ (cycleArrived s).cfg = s.cfg ∧
    (cycleArrived s).link = s.link ∧ (cycleArrived s).conv = s.conv ∧ (cycleArrived s).scale = s.scale ∧
    (cycleArrived s).feed = s.feed ∧ (cycleArrived s).dust = s.dust ∧ (cycleArrived s).qli = s.qli ∧
    (cycleArrived s).peers = s.peers ∧ (cycleArrived s).plan = s.plan ∧ (cycleArrived s).claim = s.claim ∧
    (cycleArrived s).travel = s.travel ∧ (cycleArrived s).cycle = s.cycle ∧ (cycleArrived s).bills = s.bills := by
  unfold cycleArrived; try dsimp only
  repeat' split
  all_goals (repeat' apply And.intro) <;> first | (simp; done) | rfl

@[simp] theorem cycleOffRail_frame (s : State) :
    (cycleOffRail s).pending = s.pending ∧ (cycleOffRail s).running = s.running ∧
    (cycleOffRail s).station = s.station ∧ (cycleOffRail s).seconds = s.seconds ∧ (cycleOffRail s).base = s.base ∧
    (cycleOffRail s).freeIx = s.freeIx ∧ (cycleOffRail s).pins = s.pins ∧ (cycleOffRail s).cfg = s.cfg ∧
    (cycleOffRail s).link.buf = s.link.buf ∧ (cycleOffRail s).link.miso = s.link.miso ∧
    (cycleOffRail s).link.enables = s.link.enables ∧ (cycleOffRail s).conv = s.conv ∧
    (cycleOffRail s).scale = s.scale ∧ (cycleOffRail s).feed = s.feed ∧
    (cycleOffRail s).dust.exposure = s.dust.exposure ∧ (cycleOffRail s).qli.clash = s.qli.clash ∧
    (cycleOffRail s).peers = s.peers ∧ (cycleOffRail s).plan = s.plan ∧ (cycleOffRail s).cycle.auto = s.cycle.auto ∧
    (cycleOffRail s).bills.stored = s.bills.stored ∧ (cycleOffRail s).bills.totals = s.bills.totals ∧
    (cycleOffRail s).bills.seq = s.bills.seq ∧ (cycleOffRail s).bills.entries = s.bills.entries ∧
    (cycleOffRail s).bills.summary = s.bills.summary ∧ (cycleOffRail s).bills.openedAt = s.bills.openedAt ∧
    (cycleOffRail s).qli.degraded = s.qli.degraded ∧ (cycleOffRail s).qli.winErrors = s.qli.winErrors ∧
    (cycleOffRail s).qli.rx = s.qli.rx := by
  unfold cycleOffRail; try dsimp only
  repeat' split
  all_goals (repeat' apply And.intro) <;> first | (simp; done) | rfl

@[simp] theorem cycleSpout_frame (s : State) :
    (cycleSpout s).pending = s.pending ∧ (cycleSpout s).running = s.running ∧ (cycleSpout s).station = s.station ∧
    (cycleSpout s).seconds = s.seconds ∧ (cycleSpout s).base = s.base ∧ (cycleSpout s).freeIx = s.freeIx ∧
    (cycleSpout s).pins = s.pins ∧ (cycleSpout s).cfg = s.cfg ∧ (cycleSpout s).link.buf = s.link.buf ∧
    (cycleSpout s).link.miso = s.link.miso ∧ (cycleSpout s).link.enables = s.link.enables ∧
    (cycleSpout s).conv = s.conv ∧ (cycleSpout s).scale.total = s.scale.total ∧
    (cycleSpout s).scale.stray = s.scale.stray ∧ (cycleSpout s).scale.closed = s.scale.closed ∧
    (cycleSpout s).scale.openGrams = s.scale.openGrams ∧ (cycleSpout s).scale.pourOpen = s.scale.pourOpen ∧
    (cycleSpout s).scale.saturated = s.scale.saturated ∧ (cycleSpout s).scale.calRunning = s.scale.calRunning ∧
    (cycleSpout s).scale.snapshot = s.scale.snapshot ∧ (cycleSpout s).dust.exposure = s.dust.exposure ∧
    (cycleSpout s).qli.clash = s.qli.clash ∧ (cycleSpout s).peers = s.peers ∧ (cycleSpout s).plan = s.plan ∧
    (cycleSpout s).cycle.auto = s.cycle.auto ∧ (cycleSpout s).bills.stored = s.bills.stored ∧
    (cycleSpout s).bills.totals = s.bills.totals ∧ (cycleSpout s).bills.seq = s.bills.seq ∧
    (cycleSpout s).bills.entries = s.bills.entries ∧ (cycleSpout s).bills.summary = s.bills.summary ∧
    (cycleSpout s).bills.openedAt = s.bills.openedAt ∧ (cycleSpout s).qli.degraded = s.qli.degraded ∧
    (cycleSpout s).qli.winErrors = s.qli.winErrors ∧ (cycleSpout s).qli.rx = s.qli.rx ∧
    (cycleSpout s).feed.setpoint = s.feed.setpoint ∧ (cycleSpout s).feed.staged = s.feed.staged := by
  unfold cycleSpout; try dsimp only
  repeat' split
  all_goals (repeat' apply And.intro) <;> first | (simp; done) | rfl

@[simp] theorem cyclePending_frame (s : State) :
    (cyclePending s).pending = s.pending ∧ (cyclePending s).running = s.running ∧
    (cyclePending s).station = s.station ∧ (cyclePending s).seconds = s.seconds ∧ (cyclePending s).base = s.base ∧
    (cyclePending s).freeIx = s.freeIx ∧ (cyclePending s).pins = s.pins ∧ (cyclePending s).cfg = s.cfg ∧
    (cyclePending s).link = s.link ∧ (cyclePending s).conv = s.conv ∧ (cyclePending s).scale = s.scale ∧
    (cyclePending s).feed = s.feed ∧ (cyclePending s).dust.exposure = s.dust.exposure ∧
    (cyclePending s).qli = s.qli ∧ (cyclePending s).peers = s.peers ∧ (cyclePending s).plan = s.plan ∧
    (cyclePending s).claim = s.claim ∧ (cyclePending s).travel = s.travel ∧ (cyclePending s).spout = s.spout ∧
    (cyclePending s).cycle.auto = s.cycle.auto ∧ (cyclePending s).bills = s.bills := by
  unfold cyclePending; try dsimp only
  repeat' split
  all_goals (repeat' apply And.intro) <;> first | (simp; done) | rfl

@[simp] theorem claimingFaults_frame (s : State) :
    (claimingFaults s).pending = s.pending ∧ (claimingFaults s).running = s.running ∧
    (claimingFaults s).station = s.station ∧ (claimingFaults s).seconds = s.seconds ∧
    (claimingFaults s).base = s.base ∧ (claimingFaults s).freeIx = s.freeIx ∧ (claimingFaults s).pins = s.pins ∧
    (claimingFaults s).cfg = s.cfg ∧ (claimingFaults s).link.buf = s.link.buf ∧
    (claimingFaults s).link.miso = s.link.miso ∧ (claimingFaults s).link.enables = s.link.enables ∧
    (claimingFaults s).conv = s.conv ∧ (claimingFaults s).scale = s.scale ∧
    (claimingFaults s).dust.exposure = s.dust.exposure ∧ (claimingFaults s).qli.clash = s.qli.clash ∧
    (claimingFaults s).peers = s.peers ∧ (claimingFaults s).plan = s.plan ∧
    (claimingFaults s).cycle.auto = s.cycle.auto ∧ (claimingFaults s).bills.stored = s.bills.stored ∧
    (claimingFaults s).bills.totals = s.bills.totals ∧ (claimingFaults s).bills.seq = s.bills.seq ∧
    (claimingFaults s).bills.entries = s.bills.entries ∧ (claimingFaults s).bills.summary = s.bills.summary ∧
    (claimingFaults s).bills.openedAt = s.bills.openedAt ∧ (claimingFaults s).qli.degraded = s.qli.degraded ∧
    (claimingFaults s).qli.winErrors = s.qli.winErrors ∧ (claimingFaults s).qli.rx = s.qli.rx ∧
    (claimingFaults s).feed.setpoint = s.feed.setpoint ∧ (claimingFaults s).feed.staged = s.feed.staged := by
  unfold claimingFaults; try dsimp only
  repeat' split
  all_goals (repeat' apply And.intro) <;> first | (simp; done) | rfl

@[simp] theorem cycleWon_frame (s : State) :
    (cycleWon s).pending = s.pending ∧ (cycleWon s).running = s.running ∧ (cycleWon s).station = s.station ∧
    (cycleWon s).seconds = s.seconds ∧ (cycleWon s).base = s.base ∧ (cycleWon s).freeIx = s.freeIx ∧
    (cycleWon s).pins = s.pins ∧ (cycleWon s).cfg = s.cfg ∧ (cycleWon s).link.buf = s.link.buf ∧
    (cycleWon s).link.miso = s.link.miso ∧ (cycleWon s).link.enables = s.link.enables ∧ (cycleWon s).conv = s.conv ∧
    (cycleWon s).scale = s.scale ∧ (cycleWon s).feed = s.feed ∧ (cycleWon s).dust.exposure = s.dust.exposure ∧
    (cycleWon s).qli.clash = s.qli.clash ∧ (cycleWon s).peers = s.peers ∧ (cycleWon s).plan = s.plan ∧
    (cycleWon s).cycle.auto = s.cycle.auto ∧ (cycleWon s).bills.stored = s.bills.stored ∧
    (cycleWon s).bills.totals = s.bills.totals ∧ (cycleWon s).bills.seq = s.bills.seq ∧
    (cycleWon s).bills.entries = s.bills.entries ∧ (cycleWon s).bills.summary = s.bills.summary ∧
    (cycleWon s).bills.openedAt = s.bills.openedAt ∧ (cycleWon s).qli.degraded = s.qli.degraded ∧
    (cycleWon s).qli.winErrors = s.qli.winErrors ∧ (cycleWon s).qli.rx = s.qli.rx := by
  unfold cycleWon; try dsimp only
  repeat' split
  all_goals (repeat' apply And.intro) <;> first | (simp; done) | rfl

@[simp] theorem endPour_frame (o : PourOutcome) (s : State) :
    (endPour o s).pending = s.pending ∧ (endPour o s).running = s.running ∧ (endPour o s).station = s.station ∧
    (endPour o s).seconds = s.seconds ∧ (endPour o s).base = s.base ∧ (endPour o s).freeIx = s.freeIx ∧
    (endPour o s).pins = s.pins ∧ (endPour o s).cfg = s.cfg ∧ (endPour o s).link.buf = s.link.buf ∧
    (endPour o s).link.miso = s.link.miso ∧ (endPour o s).link.enables = s.link.enables ∧
    (endPour o s).conv = s.conv ∧ (endPour o s).scale.total = s.scale.total ∧
    (endPour o s).scale.stray = s.scale.stray ∧ (endPour o s).scale.closed = s.scale.closed ∧
    (endPour o s).scale.openGrams = s.scale.openGrams ∧ (endPour o s).scale.pourOpen = s.scale.pourOpen ∧
    (endPour o s).scale.saturated = s.scale.saturated ∧ (endPour o s).scale.calRunning = s.scale.calRunning ∧
    (endPour o s).scale.snapshot = s.scale.snapshot ∧ (endPour o s).dust.exposure = s.dust.exposure ∧
    (endPour o s).qli.clash = s.qli.clash ∧ (endPour o s).peers = s.peers ∧ (endPour o s).plan = s.plan ∧
    (endPour o s).cycle.auto = s.cycle.auto ∧ (endPour o s).bills.stored = s.bills.stored ∧
    (endPour o s).bills.totals = s.bills.totals ∧ (endPour o s).bills.seq = s.bills.seq ∧
    (endPour o s).bills.entries = s.bills.entries ∧ (endPour o s).bills.summary = s.bills.summary ∧
    (endPour o s).bills.openedAt = s.bills.openedAt ∧ (endPour o s).qli.degraded = s.qli.degraded ∧
    (endPour o s).qli.winErrors = s.qli.winErrors ∧ (endPour o s).qli.rx = s.qli.rx ∧
    (endPour o s).feed.setpoint = s.feed.setpoint ∧ (endPour o s).feed.staged = s.feed.staged := by
  unfold endPour; try dsimp only
  repeat' split
  all_goals (repeat' apply And.intro) <;> first | (simp; done) | rfl

@[simp] theorem claimTaken_frame (o : PourOutcome) (e : Event) (s : State) :
    (claimTaken o e s).pending = s.pending ∧ (claimTaken o e s).running = s.running ∧
    (claimTaken o e s).station = s.station ∧ (claimTaken o e s).seconds = s.seconds ∧
    (claimTaken o e s).base = s.base ∧ (claimTaken o e s).freeIx = s.freeIx ∧ (claimTaken o e s).pins = s.pins ∧
    (claimTaken o e s).cfg = s.cfg ∧ (claimTaken o e s).link.buf = s.link.buf ∧
    (claimTaken o e s).link.miso = s.link.miso ∧ (claimTaken o e s).link.enables = s.link.enables ∧
    (claimTaken o e s).conv = s.conv ∧ (claimTaken o e s).scale.total = s.scale.total ∧
    (claimTaken o e s).scale.stray = s.scale.stray ∧ (claimTaken o e s).scale.closed = s.scale.closed ∧
    (claimTaken o e s).scale.openGrams = s.scale.openGrams ∧ (claimTaken o e s).scale.pourOpen = s.scale.pourOpen ∧
    (claimTaken o e s).scale.saturated = s.scale.saturated ∧
    (claimTaken o e s).scale.calRunning = s.scale.calRunning ∧
    (claimTaken o e s).scale.snapshot = s.scale.snapshot ∧ (claimTaken o e s).dust.exposure = s.dust.exposure ∧
    (claimTaken o e s).qli.clash = s.qli.clash ∧ (claimTaken o e s).peers = s.peers ∧
    (claimTaken o e s).plan = s.plan ∧ (claimTaken o e s).cycle.auto = s.cycle.auto ∧
    (claimTaken o e s).bills.stored = s.bills.stored ∧ (claimTaken o e s).bills.totals = s.bills.totals ∧
    (claimTaken o e s).bills.seq = s.bills.seq ∧ (claimTaken o e s).bills.entries = s.bills.entries ∧
    (claimTaken o e s).bills.summary = s.bills.summary ∧ (claimTaken o e s).bills.openedAt = s.bills.openedAt ∧
    (claimTaken o e s).qli.degraded = s.qli.degraded ∧ (claimTaken o e s).qli.winErrors = s.qli.winErrors ∧
    (claimTaken o e s).qli.rx = s.qli.rx ∧ (claimTaken o e s).feed.setpoint = s.feed.setpoint ∧
    (claimTaken o e s).feed.staged = s.feed.staged := by
  unfold claimTaken; try dsimp only
  repeat' split
  all_goals (repeat' apply And.intro) <;> first | (simp; done) | rfl

@[simp] theorem clearCauses_frame (s : State) :
    (clearCauses s).pending = s.pending ∧ (clearCauses s).running = s.running ∧
    (clearCauses s).station = s.station ∧ (clearCauses s).seconds = s.seconds ∧ (clearCauses s).base = s.base ∧
    (clearCauses s).freeIx = s.freeIx ∧ (clearCauses s).pins = s.pins ∧ (clearCauses s).cfg = s.cfg ∧
    (clearCauses s).link = s.link ∧ (clearCauses s).conv = s.conv ∧ (clearCauses s).scale = s.scale ∧
    (clearCauses s).feed = s.feed ∧ (clearCauses s).dust = s.dust ∧ (clearCauses s).qli = s.qli ∧
    (clearCauses s).peers = s.peers ∧ (clearCauses s).plan = s.plan ∧ (clearCauses s).claim = s.claim ∧
    (clearCauses s).travel = s.travel ∧ (clearCauses s).spout = s.spout ∧
    (clearCauses s).cycle.auto = s.cycle.auto ∧ (clearCauses s).bills = s.bills := by
  unfold clearCauses; try dsimp only
  repeat' split
  all_goals (repeat' apply And.intro) <;> first | (simp; done) | rfl

@[simp] theorem withdrawFrom_frame (s : State) :
    (withdrawFrom s).pending = s.pending ∧ (withdrawFrom s).running = s.running ∧
    (withdrawFrom s).station = s.station ∧ (withdrawFrom s).seconds = s.seconds ∧ (withdrawFrom s).base = s.base ∧
    (withdrawFrom s).freeIx = s.freeIx ∧ (withdrawFrom s).pins = s.pins ∧ (withdrawFrom s).cfg = s.cfg ∧
    (withdrawFrom s).link.buf = s.link.buf ∧ (withdrawFrom s).link.miso = s.link.miso ∧
    (withdrawFrom s).link.enables = s.link.enables ∧ (withdrawFrom s).conv = s.conv ∧
    (withdrawFrom s).scale = s.scale ∧ (withdrawFrom s).feed = s.feed ∧
    (withdrawFrom s).dust.exposure = s.dust.exposure ∧ (withdrawFrom s).qli.clash = s.qli.clash ∧
    (withdrawFrom s).peers = s.peers ∧ (withdrawFrom s).plan = s.plan ∧ (withdrawFrom s).cycle.auto = s.cycle.auto ∧
    (withdrawFrom s).bills.stored = s.bills.stored ∧ (withdrawFrom s).bills.totals = s.bills.totals ∧
    (withdrawFrom s).bills.seq = s.bills.seq ∧ (withdrawFrom s).bills.entries = s.bills.entries ∧
    (withdrawFrom s).bills.summary = s.bills.summary ∧ (withdrawFrom s).bills.openedAt = s.bills.openedAt ∧
    (withdrawFrom s).qli.degraded = s.qli.degraded ∧ (withdrawFrom s).qli.winErrors = s.qli.winErrors ∧
    (withdrawFrom s).qli.rx = s.qli.rx := by
  unfold withdrawFrom; try dsimp only
  repeat' split
  all_goals (repeat' apply And.intro) <;> first | (simp; done) | rfl

@[simp] theorem resumeFrom_frame (s : State) :
    (resumeFrom s).pending = s.pending ∧ (resumeFrom s).running = s.running ∧ (resumeFrom s).station = s.station ∧
    (resumeFrom s).seconds = s.seconds ∧ (resumeFrom s).base = s.base ∧ (resumeFrom s).freeIx = s.freeIx ∧
    (resumeFrom s).pins = s.pins ∧ (resumeFrom s).cfg = s.cfg ∧ (resumeFrom s).link.buf = s.link.buf ∧
    (resumeFrom s).link.miso = s.link.miso ∧ (resumeFrom s).link.enables = s.link.enables ∧
    (resumeFrom s).conv = s.conv ∧ (resumeFrom s).scale.total = s.scale.total ∧
    (resumeFrom s).scale.stray = s.scale.stray ∧ (resumeFrom s).scale.closed = s.scale.closed ∧
    (resumeFrom s).scale.openGrams = s.scale.openGrams ∧ (resumeFrom s).scale.pourOpen = s.scale.pourOpen ∧
    (resumeFrom s).scale.saturated = s.scale.saturated ∧ (resumeFrom s).scale.calRunning = s.scale.calRunning ∧
    (resumeFrom s).scale.snapshot = s.scale.snapshot ∧ (resumeFrom s).dust.exposure = s.dust.exposure ∧
    (resumeFrom s).qli.clash = s.qli.clash ∧ (resumeFrom s).peers = s.peers ∧ (resumeFrom s).plan = s.plan ∧
    (resumeFrom s).cycle.auto = s.cycle.auto ∧ (resumeFrom s).bills.stored = s.bills.stored ∧
    (resumeFrom s).bills.totals = s.bills.totals ∧ (resumeFrom s).bills.seq = s.bills.seq ∧
    (resumeFrom s).bills.entries = s.bills.entries ∧ (resumeFrom s).bills.summary = s.bills.summary ∧
    (resumeFrom s).bills.openedAt = s.bills.openedAt ∧ (resumeFrom s).qli.degraded = s.qli.degraded ∧
    (resumeFrom s).qli.winErrors = s.qli.winErrors ∧ (resumeFrom s).qli.rx = s.qli.rx ∧
    (resumeFrom s).feed.setpoint = s.feed.setpoint ∧ (resumeFrom s).feed.staged = s.feed.staged := by
  unfold resumeFrom; try dsimp only
  repeat' split
  all_goals (repeat' apply And.intro) <;> first | (simp; done) | rfl

@[simp] theorem reattend_frame (s : State) :
    (reattend s).pending = s.pending ∧ (reattend s).running = s.running ∧ (reattend s).station = s.station ∧
    (reattend s).seconds = s.seconds ∧ (reattend s).base = s.base ∧ (reattend s).freeIx = s.freeIx ∧
    (reattend s).pins = s.pins ∧ (reattend s).cfg = s.cfg ∧ (reattend s).link = s.link ∧
    (reattend s).conv = s.conv ∧ (reattend s).scale = s.scale ∧ (reattend s).feed = s.feed ∧
    (reattend s).dust = s.dust ∧ (reattend s).qli = s.qli ∧ (reattend s).peers = s.peers ∧
    (reattend s).plan = s.plan ∧ (reattend s).claim = s.claim ∧ (reattend s).travel = s.travel ∧
    (reattend s).spout = s.spout ∧ (reattend s).cycle.auto = s.cycle.auto ∧ (reattend s).bills = s.bills := by
  unfold reattend; try dsimp only
  repeat' split
  all_goals (repeat' apply And.intro) <;> first | (simp; done) | rfl

@[simp] theorem cycleExposure_frame (before : Exposure) (s : State) :
    (cycleExposure before s).pending = s.pending ∧ (cycleExposure before s).running = s.running ∧
    (cycleExposure before s).station = s.station ∧ (cycleExposure before s).seconds = s.seconds ∧
    (cycleExposure before s).base = s.base ∧ (cycleExposure before s).freeIx = s.freeIx ∧
    (cycleExposure before s).pins = s.pins ∧ (cycleExposure before s).cfg = s.cfg ∧
    (cycleExposure before s).link.buf = s.link.buf ∧ (cycleExposure before s).link.miso = s.link.miso ∧
    (cycleExposure before s).link.enables = s.link.enables ∧ (cycleExposure before s).conv = s.conv ∧
    (cycleExposure before s).scale = s.scale ∧ (cycleExposure before s).dust.exposure = s.dust.exposure ∧
    (cycleExposure before s).qli.clash = s.qli.clash ∧ (cycleExposure before s).peers = s.peers ∧
    (cycleExposure before s).plan = s.plan ∧ (cycleExposure before s).cycle.auto = s.cycle.auto ∧
    (cycleExposure before s).bills.stored = s.bills.stored ∧
    (cycleExposure before s).bills.totals = s.bills.totals ∧ (cycleExposure before s).bills.seq = s.bills.seq ∧
    (cycleExposure before s).bills.entries = s.bills.entries ∧
    (cycleExposure before s).bills.summary = s.bills.summary ∧
    (cycleExposure before s).bills.openedAt = s.bills.openedAt ∧
    (cycleExposure before s).qli.degraded = s.qli.degraded ∧
    (cycleExposure before s).qli.winErrors = s.qli.winErrors ∧ (cycleExposure before s).qli.rx = s.qli.rx ∧
    (cycleExposure before s).feed.setpoint = s.feed.setpoint ∧ (cycleExposure before s).feed.staged = s.feed.staged := by
  unfold cycleExposure; try dsimp only
  repeat' split
  all_goals (repeat' apply And.intro) <;> first | (simp; done) | rfl

@[simp] theorem takeExposure_frame (e : Exposure) (s : State) :
    (takeExposure e s).pending = s.pending ∧ (takeExposure e s).running = s.running ∧
    (takeExposure e s).station = s.station ∧ (takeExposure e s).seconds = s.seconds ∧
    (takeExposure e s).base = s.base ∧ (takeExposure e s).freeIx = s.freeIx ∧ (takeExposure e s).pins = s.pins ∧
    (takeExposure e s).cfg = s.cfg ∧ (takeExposure e s).link.buf = s.link.buf ∧
    (takeExposure e s).link.miso = s.link.miso ∧ (takeExposure e s).link.enables = s.link.enables ∧
    (takeExposure e s).conv = s.conv ∧ (takeExposure e s).scale = s.scale ∧
    (takeExposure e s).qli.clash = s.qli.clash ∧ (takeExposure e s).peers = s.peers ∧
    (takeExposure e s).plan = s.plan ∧ (takeExposure e s).cycle.auto = s.cycle.auto ∧
    (takeExposure e s).bills.stored = s.bills.stored ∧ (takeExposure e s).bills.totals = s.bills.totals ∧
    (takeExposure e s).bills.seq = s.bills.seq ∧ (takeExposure e s).bills.entries = s.bills.entries ∧
    (takeExposure e s).bills.summary = s.bills.summary ∧ (takeExposure e s).bills.openedAt = s.bills.openedAt ∧
    (takeExposure e s).qli.degraded = s.qli.degraded ∧ (takeExposure e s).qli.winErrors = s.qli.winErrors ∧
    (takeExposure e s).qli.rx = s.qli.rx ∧ (takeExposure e s).feed.setpoint = s.feed.setpoint ∧
    (takeExposure e s).feed.staged = s.feed.staged := by
  unfold takeExposure; try dsimp only
  repeat' split
  all_goals (repeat' apply And.intro) <;> first | (simp; done) | rfl

@[simp] theorem refreshExposure_frame (s : State) :
    (refreshExposure s).pending = s.pending ∧ (refreshExposure s).running = s.running ∧
    (refreshExposure s).station = s.station ∧ (refreshExposure s).seconds = s.seconds ∧
    (refreshExposure s).base = s.base ∧ (refreshExposure s).freeIx = s.freeIx ∧ (refreshExposure s).pins = s.pins ∧
    (refreshExposure s).cfg = s.cfg ∧ (refreshExposure s).link.buf = s.link.buf ∧
    (refreshExposure s).link.miso = s.link.miso ∧ (refreshExposure s).link.enables = s.link.enables ∧
    (refreshExposure s).conv = s.conv ∧ (refreshExposure s).scale = s.scale ∧
    (refreshExposure s).qli.clash = s.qli.clash ∧ (refreshExposure s).peers = s.peers ∧
    (refreshExposure s).plan = s.plan ∧ (refreshExposure s).cycle.auto = s.cycle.auto ∧
    (refreshExposure s).bills.stored = s.bills.stored ∧ (refreshExposure s).bills.totals = s.bills.totals ∧
    (refreshExposure s).bills.seq = s.bills.seq ∧ (refreshExposure s).bills.entries = s.bills.entries ∧
    (refreshExposure s).bills.summary = s.bills.summary ∧ (refreshExposure s).bills.openedAt = s.bills.openedAt ∧
    (refreshExposure s).qli.degraded = s.qli.degraded ∧ (refreshExposure s).qli.winErrors = s.qli.winErrors ∧
    (refreshExposure s).qli.rx = s.qli.rx ∧ (refreshExposure s).feed.setpoint = s.feed.setpoint ∧
    (refreshExposure s).feed.staged = s.feed.staged := by
  unfold refreshExposure; try dsimp only
  repeat' split
  all_goals (repeat' apply And.intro) <;> first | (simp; done) | rfl

@[simp] theorem refreshMarks_frame (s : State) :
    (refreshMarks s).pending = s.pending ∧ (refreshMarks s).running = s.running ∧
    (refreshMarks s).station = s.station ∧ (refreshMarks s).seconds = s.seconds ∧ (refreshMarks s).base = s.base ∧
    (refreshMarks s).freeIx = s.freeIx ∧ (refreshMarks s).pins = s.pins ∧ (refreshMarks s).cfg = s.cfg ∧
    (refreshMarks s).link.buf = s.link.buf ∧ (refreshMarks s).link.miso = s.link.miso ∧
    (refreshMarks s).link.enables = s.link.enables ∧ (refreshMarks s).conv = s.conv ∧
    (refreshMarks s).scale = s.scale ∧ (refreshMarks s).feed = s.feed ∧ (refreshMarks s).dust = s.dust ∧
    (refreshMarks s).qli = s.qli ∧ (refreshMarks s).plan = s.plan ∧ (refreshMarks s).claim = s.claim ∧
    (refreshMarks s).travel = s.travel ∧ (refreshMarks s).spout = s.spout ∧ (refreshMarks s).cycle = s.cycle ∧
    (refreshMarks s).bills = s.bills := by
  unfold refreshMarks; try dsimp only
  repeat' split
  all_goals (repeat' apply And.intro) <;> first | (simp; done) | rfl

@[simp] theorem settlePeers_frame (before s : State) :
    (settlePeers before s).pending = s.pending ∧ (settlePeers before s).running = s.running ∧
    (settlePeers before s).station = s.station ∧ (settlePeers before s).seconds = s.seconds ∧
    (settlePeers before s).base = s.base ∧ (settlePeers before s).freeIx = s.freeIx ∧
    (settlePeers before s).pins = s.pins ∧ (settlePeers before s).cfg = s.cfg ∧
    (settlePeers before s).link.buf = s.link.buf ∧ (settlePeers before s).link.miso = s.link.miso ∧
    (settlePeers before s).link.enables = s.link.enables ∧ (settlePeers before s).conv = s.conv ∧
    (settlePeers before s).scale = s.scale ∧ (settlePeers before s).qli.clash = s.qli.clash ∧
    (settlePeers before s).plan = s.plan ∧ (settlePeers before s).cycle.auto = s.cycle.auto ∧
    (settlePeers before s).bills.stored = s.bills.stored ∧ (settlePeers before s).bills.totals = s.bills.totals ∧
    (settlePeers before s).bills.seq = s.bills.seq ∧ (settlePeers before s).bills.entries = s.bills.entries ∧
    (settlePeers before s).bills.summary = s.bills.summary ∧
    (settlePeers before s).bills.openedAt = s.bills.openedAt ∧
    (settlePeers before s).qli.degraded = s.qli.degraded ∧ (settlePeers before s).qli.winErrors = s.qli.winErrors ∧
    (settlePeers before s).qli.rx = s.qli.rx ∧ (settlePeers before s).feed.setpoint = s.feed.setpoint ∧
    (settlePeers before s).feed.staged = s.feed.staged := by
  unfold settlePeers; try dsimp only
  repeat' split
  all_goals (repeat' apply And.intro) <;> first | (simp; done) | rfl

@[simp] theorem settleWindow_frame (before s : State) :
    (settleWindow before s).pending = s.pending ∧ (settleWindow before s).running = s.running ∧
    (settleWindow before s).station = s.station ∧ (settleWindow before s).seconds = s.seconds ∧
    (settleWindow before s).base = s.base ∧ (settleWindow before s).freeIx = s.freeIx ∧
    (settleWindow before s).pins = s.pins ∧ (settleWindow before s).cfg = s.cfg ∧
    (settleWindow before s).link.buf = s.link.buf ∧ (settleWindow before s).link.miso = s.link.miso ∧
    (settleWindow before s).link.enables = s.link.enables ∧ (settleWindow before s).conv = s.conv ∧
    (settleWindow before s).scale.total = s.scale.total ∧ (settleWindow before s).scale.stray = s.scale.stray ∧
    (settleWindow before s).scale.closed = s.scale.closed ∧
    (settleWindow before s).scale.openGrams = s.scale.openGrams ∧
    (settleWindow before s).scale.pourOpen = s.scale.pourOpen ∧
    (settleWindow before s).scale.saturated = s.scale.saturated ∧
    (settleWindow before s).scale.calRunning = s.scale.calRunning ∧
    (settleWindow before s).scale.snapshot = s.scale.snapshot ∧
    (settleWindow before s).dust.exposure = s.dust.exposure ∧ (settleWindow before s).qli.clash = s.qli.clash ∧
    (settleWindow before s).peers = s.peers ∧ (settleWindow before s).plan = s.plan ∧
    (settleWindow before s).cycle.auto = s.cycle.auto ∧ (settleWindow before s).bills.stored = s.bills.stored ∧
    (settleWindow before s).bills.totals = s.bills.totals ∧ (settleWindow before s).bills.seq = s.bills.seq ∧
    (settleWindow before s).bills.entries = s.bills.entries ∧
    (settleWindow before s).bills.summary = s.bills.summary ∧
    (settleWindow before s).bills.openedAt = s.bills.openedAt ∧
    (settleWindow before s).qli.degraded = s.qli.degraded ∧
    (settleWindow before s).qli.winErrors = s.qli.winErrors ∧ (settleWindow before s).qli.rx = s.qli.rx ∧
    (settleWindow before s).feed.setpoint = s.feed.setpoint ∧ (settleWindow before s).feed.staged = s.feed.staged := by
  unfold settleWindow; try dsimp only
  repeat' split
  all_goals (repeat' apply And.intro) <;> first | (simp; done) | rfl

@[simp] theorem movePosition_frame (before s : State) :
    (movePosition before s).pending = s.pending ∧ (movePosition before s).running = s.running ∧
    (movePosition before s).station = s.station ∧ (movePosition before s).seconds = s.seconds ∧
    (movePosition before s).base = s.base ∧ (movePosition before s).freeIx = s.freeIx ∧
    (movePosition before s).pins = s.pins ∧ (movePosition before s).cfg = s.cfg ∧
    (movePosition before s).link.buf = s.link.buf ∧ (movePosition before s).link.miso = s.link.miso ∧
    (movePosition before s).link.enables = s.link.enables ∧ (movePosition before s).conv = s.conv ∧
    (movePosition before s).scale.total = s.scale.total ∧ (movePosition before s).scale.stray = s.scale.stray ∧
    (movePosition before s).scale.closed = s.scale.closed ∧
    (movePosition before s).scale.openGrams = s.scale.openGrams ∧
    (movePosition before s).scale.pourOpen = s.scale.pourOpen ∧
    (movePosition before s).scale.saturated = s.scale.saturated ∧
    (movePosition before s).scale.calRunning = s.scale.calRunning ∧
    (movePosition before s).scale.snapshot = s.scale.snapshot ∧ (movePosition before s).qli.clash = s.qli.clash ∧
    (movePosition before s).plan = s.plan ∧ (movePosition before s).cycle.auto = s.cycle.auto ∧
    (movePosition before s).bills.stored = s.bills.stored ∧ (movePosition before s).bills.totals = s.bills.totals ∧
    (movePosition before s).bills.seq = s.bills.seq ∧ (movePosition before s).bills.entries = s.bills.entries ∧
    (movePosition before s).bills.summary = s.bills.summary ∧
    (movePosition before s).bills.openedAt = s.bills.openedAt ∧
    (movePosition before s).qli.degraded = s.qli.degraded ∧
    (movePosition before s).qli.winErrors = s.qli.winErrors ∧ (movePosition before s).qli.rx = s.qli.rx ∧
    (movePosition before s).feed.setpoint = s.feed.setpoint ∧ (movePosition before s).feed.staged = s.feed.staged := by
  unfold movePosition; try dsimp only
  repeat' split
  all_goals (repeat' apply And.intro) <;> first | (simp; done) | rfl

@[simp] theorem settleLevels_frame (before s : State) :
    (settleLevels before s).pending = s.pending ∧ (settleLevels before s).running = s.running ∧
    (settleLevels before s).station = s.station ∧ (settleLevels before s).seconds = s.seconds ∧
    (settleLevels before s).base = s.base ∧ (settleLevels before s).freeIx = s.freeIx ∧
    (settleLevels before s).pins = s.pins ∧ (settleLevels before s).cfg = s.cfg ∧
    (settleLevels before s).link.buf = s.link.buf ∧ (settleLevels before s).link.miso = s.link.miso ∧
    (settleLevels before s).link.enables = s.link.enables ∧ (settleLevels before s).conv = s.conv ∧
    (settleLevels before s).scale = s.scale ∧ (settleLevels before s).qli.clash = s.qli.clash ∧
    (settleLevels before s).peers = s.peers ∧ (settleLevels before s).plan = s.plan ∧
    (settleLevels before s).cycle.auto = s.cycle.auto ∧ (settleLevels before s).bills.stored = s.bills.stored ∧
    (settleLevels before s).bills.totals = s.bills.totals ∧ (settleLevels before s).bills.seq = s.bills.seq ∧
    (settleLevels before s).bills.entries = s.bills.entries ∧
    (settleLevels before s).bills.summary = s.bills.summary ∧
    (settleLevels before s).bills.openedAt = s.bills.openedAt ∧
    (settleLevels before s).qli.degraded = s.qli.degraded ∧
    (settleLevels before s).qli.winErrors = s.qli.winErrors ∧ (settleLevels before s).qli.rx = s.qli.rx ∧
    (settleLevels before s).feed.setpoint = s.feed.setpoint ∧ (settleLevels before s).feed.staged = s.feed.staged := by
  unfold settleLevels; try dsimp only
  repeat' split
  all_goals (repeat' apply And.intro) <;> first | (simp; done) | rfl

end Sys2Proof.Machine
end

