-- ==== Sys2Proof/Laws/Interval.lean ====
section
/-! SUPPORT. Frame lemmas: what the board, the interval end and the acts two rows share leave unchanged.
Each `<op>_frame` is one conjunction, so that simp rewrites with every part of it and no caller unfolds the operation. -/

namespace Sys2Proof.Machine

@[simp] theorem claimHeard_frame (accepted : Bool) (s : State) :
    (claimHeard accepted s).pending = s.pending ∧ (claimHeard accepted s).running = s.running ∧
    (claimHeard accepted s).station = s.station ∧ (claimHeard accepted s).seconds = s.seconds ∧
    (claimHeard accepted s).base = s.base ∧ (claimHeard accepted s).freeIx = s.freeIx ∧
    (claimHeard accepted s).pins = s.pins ∧ (claimHeard accepted s).cfg = s.cfg ∧
    (claimHeard accepted s).link.buf = s.link.buf ∧ (claimHeard accepted s).link.miso = s.link.miso ∧
    (claimHeard accepted s).link.enables = s.link.enables ∧ (claimHeard accepted s).conv = s.conv ∧
    (claimHeard accepted s).scale = s.scale ∧ (claimHeard accepted s).feed = s.feed ∧
    (claimHeard accepted s).dust.exposure = s.dust.exposure ∧ (claimHeard accepted s).qli.clash = s.qli.clash ∧
    (claimHeard accepted s).peers = s.peers ∧ (claimHeard accepted s).plan = s.plan ∧
    (claimHeard accepted s).cycle.auto = s.cycle.auto ∧ (claimHeard accepted s).bills.stored = s.bills.stored ∧
    (claimHeard accepted s).bills.totals = s.bills.totals ∧ (claimHeard accepted s).bills.seq = s.bills.seq ∧
    (claimHeard accepted s).bills.entries = s.bills.entries ∧
    (claimHeard accepted s).bills.summary = s.bills.summary ∧
    (claimHeard accepted s).bills.openedAt = s.bills.openedAt ∧
    (claimHeard accepted s).qli.degraded = s.qli.degraded ∧
    (claimHeard accepted s).qli.winErrors = s.qli.winErrors ∧ (claimHeard accepted s).qli.rx = s.qli.rx := by
  unfold claimHeard; try dsimp only
  repeat' split
  all_goals (repeat' apply And.intro) <;> first | (simp; done) | rfl

@[simp] theorem ownClaimEnds_frame (own : Bool) (f : Frame) (t : Tranche) (s : State) :
    (ownClaimEnds own f t s).pending = s.pending ∧ (ownClaimEnds own f t s).running = s.running ∧
    (ownClaimEnds own f t s).station = s.station ∧ (ownClaimEnds own f t s).seconds = s.seconds ∧
    (ownClaimEnds own f t s).base = s.base ∧ (ownClaimEnds own f t s).freeIx = s.freeIx ∧
    (ownClaimEnds own f t s).pins = s.pins ∧ (ownClaimEnds own f t s).cfg = s.cfg ∧
    (ownClaimEnds own f t s).link.buf = s.link.buf ∧ (ownClaimEnds own f t s).link.miso = s.link.miso ∧
    (ownClaimEnds own f t s).link.enables = s.link.enables ∧ (ownClaimEnds own f t s).conv = s.conv ∧
    (ownClaimEnds own f t s).scale.total = s.scale.total ∧ (ownClaimEnds own f t s).scale.stray = s.scale.stray ∧
    (ownClaimEnds own f t s).scale.closed = s.scale.closed ∧
    (ownClaimEnds own f t s).scale.openGrams = s.scale.openGrams ∧
    (ownClaimEnds own f t s).scale.pourOpen = s.scale.pourOpen ∧
    (ownClaimEnds own f t s).scale.saturated = s.scale.saturated ∧
    (ownClaimEnds own f t s).scale.calRunning = s.scale.calRunning ∧
    (ownClaimEnds own f t s).scale.snapshot = s.scale.snapshot ∧
    (ownClaimEnds own f t s).dust.exposure = s.dust.exposure ∧ (ownClaimEnds own f t s).qli.clash = s.qli.clash ∧
    (ownClaimEnds own f t s).peers = s.peers ∧ (ownClaimEnds own f t s).plan = s.plan ∧
    (ownClaimEnds own f t s).cycle.auto = s.cycle.auto ∧ (ownClaimEnds own f t s).bills.stored = s.bills.stored ∧
    (ownClaimEnds own f t s).bills.totals = s.bills.totals ∧ (ownClaimEnds own f t s).bills.seq = s.bills.seq ∧
    (ownClaimEnds own f t s).bills.entries = s.bills.entries ∧
    (ownClaimEnds own f t s).bills.summary = s.bills.summary ∧
    (ownClaimEnds own f t s).bills.openedAt = s.bills.openedAt ∧
    (ownClaimEnds own f t s).qli.degraded = s.qli.degraded ∧
    (ownClaimEnds own f t s).qli.winErrors = s.qli.winErrors ∧ (ownClaimEnds own f t s).qli.rx = s.qli.rx ∧
    (ownClaimEnds own f t s).feed.setpoint = s.feed.setpoint ∧ (ownClaimEnds own f t s).feed.staged = s.feed.staged := by
  unfold ownClaimEnds; try dsimp only
  repeat' split
  all_goals (repeat' apply And.intro) <;> first | (simp; done) | rfl

@[simp] theorem mergeFrame_frame (b : Nat) (own : Bool) (f : Frame) (s : State) :
    (mergeFrame b own f s).pending = s.pending ∧ (mergeFrame b own f s).running = s.running ∧
    (mergeFrame b own f s).station = s.station ∧ (mergeFrame b own f s).seconds = s.seconds ∧
    (mergeFrame b own f s).base = s.base ∧ (mergeFrame b own f s).freeIx = s.freeIx ∧
    (mergeFrame b own f s).pins = s.pins ∧ (mergeFrame b own f s).cfg = s.cfg ∧
    (mergeFrame b own f s).link.buf = s.link.buf ∧ (mergeFrame b own f s).link.miso = s.link.miso ∧
    (mergeFrame b own f s).link.enables = s.link.enables ∧ (mergeFrame b own f s).conv = s.conv ∧
    (mergeFrame b own f s).scale.total = s.scale.total ∧ (mergeFrame b own f s).scale.stray = s.scale.stray ∧
    (mergeFrame b own f s).scale.closed = s.scale.closed ∧
    (mergeFrame b own f s).scale.openGrams = s.scale.openGrams ∧
    (mergeFrame b own f s).scale.pourOpen = s.scale.pourOpen ∧
    (mergeFrame b own f s).scale.saturated = s.scale.saturated ∧
    (mergeFrame b own f s).scale.calRunning = s.scale.calRunning ∧
    (mergeFrame b own f s).scale.snapshot = s.scale.snapshot ∧
    (mergeFrame b own f s).dust.exposure = s.dust.exposure ∧ (mergeFrame b own f s).qli.clash = s.qli.clash ∧
    (mergeFrame b own f s).peers = s.peers ∧ (mergeFrame b own f s).cycle.auto = s.cycle.auto ∧
    (mergeFrame b own f s).bills.stored = s.bills.stored ∧ (mergeFrame b own f s).bills.totals = s.bills.totals ∧
    (mergeFrame b own f s).bills.seq = s.bills.seq ∧ (mergeFrame b own f s).bills.entries = s.bills.entries ∧
    (mergeFrame b own f s).bills.summary = s.bills.summary ∧
    (mergeFrame b own f s).bills.openedAt = s.bills.openedAt ∧
    (mergeFrame b own f s).qli.degraded = s.qli.degraded ∧ (mergeFrame b own f s).qli.winErrors = s.qli.winErrors ∧
    (mergeFrame b own f s).qli.rx = s.qli.rx ∧ (mergeFrame b own f s).feed.setpoint = s.feed.setpoint ∧
    (mergeFrame b own f s).feed.staged = s.feed.staged ∧ (mergeFrame b own f s).plan.state = s.plan.state ∧
    (mergeFrame b own f s).plan.header = s.plan.header ∧ (mergeFrame b own f s).plan.holds = s.plan.holds ∧
    (mergeFrame b own f s).plan.check = s.plan.check := by
  unfold mergeFrame; try dsimp only
  repeat' split
  all_goals (repeat' apply And.intro) <;> first | (simp; done) | rfl

@[simp] theorem makeClaim_frame (t : Tranche) (plan : Nat) (s : State) :
    (makeClaim t plan s).pending = s.pending ∧ (makeClaim t plan s).running = s.running ∧
    (makeClaim t plan s).station = s.station ∧ (makeClaim t plan s).seconds = s.seconds ∧
    (makeClaim t plan s).base = s.base ∧ (makeClaim t plan s).freeIx = s.freeIx ∧
    (makeClaim t plan s).pins = s.pins ∧ (makeClaim t plan s).cfg = s.cfg ∧
    (makeClaim t plan s).link.buf = s.link.buf ∧ (makeClaim t plan s).link.miso = s.link.miso ∧
    (makeClaim t plan s).link.enables = s.link.enables ∧ (makeClaim t plan s).conv = s.conv ∧
    (makeClaim t plan s).scale = s.scale ∧ (makeClaim t plan s).dust.exposure = s.dust.exposure ∧
    (makeClaim t plan s).qli.clash = s.qli.clash ∧ (makeClaim t plan s).peers = s.peers ∧
    (makeClaim t plan s).plan = s.plan ∧ (makeClaim t plan s).cycle.auto = s.cycle.auto ∧
    (makeClaim t plan s).bills.stored = s.bills.stored ∧ (makeClaim t plan s).bills.totals = s.bills.totals ∧
    (makeClaim t plan s).bills.seq = s.bills.seq ∧ (makeClaim t plan s).bills.entries = s.bills.entries ∧
    (makeClaim t plan s).bills.summary = s.bills.summary ∧ (makeClaim t plan s).bills.openedAt = s.bills.openedAt ∧
    (makeClaim t plan s).qli.degraded = s.qli.degraded ∧ (makeClaim t plan s).qli.winErrors = s.qli.winErrors ∧
    (makeClaim t plan s).qli.rx = s.qli.rx ∧ (makeClaim t plan s).feed.setpoint = s.feed.setpoint ∧
    (makeClaim t plan s).feed.staged = s.feed.staged := by
  unfold makeClaim tellDrop; try dsimp only
  repeat' split
  all_goals (repeat' apply And.intro) <;> first | (simp; done) | rfl

@[simp] theorem attempt_frame (s : State) :
    (attempt s).pending = s.pending ∧ (attempt s).running = s.running ∧ (attempt s).station = s.station ∧
    (attempt s).seconds = s.seconds ∧ (attempt s).base = s.base ∧ (attempt s).freeIx = s.freeIx ∧
    (attempt s).pins = s.pins ∧ (attempt s).cfg = s.cfg ∧ (attempt s).link.buf = s.link.buf ∧
    (attempt s).link.miso = s.link.miso ∧ (attempt s).link.enables = s.link.enables ∧ (attempt s).conv = s.conv ∧
    (attempt s).scale = s.scale ∧ (attempt s).dust.exposure = s.dust.exposure ∧
    (attempt s).qli.clash = s.qli.clash ∧ (attempt s).peers = s.peers ∧ (attempt s).plan = s.plan ∧
    (attempt s).cycle.auto = s.cycle.auto ∧ (attempt s).bills.stored = s.bills.stored ∧
    (attempt s).bills.totals = s.bills.totals ∧ (attempt s).bills.seq = s.bills.seq ∧
    (attempt s).bills.entries = s.bills.entries ∧ (attempt s).bills.summary = s.bills.summary ∧
    (attempt s).bills.openedAt = s.bills.openedAt ∧ (attempt s).qli.degraded = s.qli.degraded ∧
    (attempt s).qli.winErrors = s.qli.winErrors ∧ (attempt s).qli.rx = s.qli.rx ∧
    (attempt s).feed.setpoint = s.feed.setpoint ∧ (attempt s).feed.staged = s.feed.staged := by
  unfold attempt; try dsimp only
  repeat' split
  all_goals (repeat' apply And.intro) <;> first | (simp; done) | rfl

@[simp] theorem creditInterval_frame (s : State) :
    (creditInterval s).pending = s.pending ∧ (creditInterval s).running = s.running ∧
    (creditInterval s).station = s.station ∧ (creditInterval s).seconds = s.seconds ∧
    (creditInterval s).base = s.base ∧ (creditInterval s).freeIx = s.freeIx ∧ (creditInterval s).pins = s.pins ∧
    (creditInterval s).cfg = s.cfg ∧ (creditInterval s).link.buf = s.link.buf ∧
    (creditInterval s).link.miso = s.link.miso ∧ (creditInterval s).link.enables = s.link.enables ∧
    (creditInterval s).conv = s.conv ∧ (creditInterval s).feed = s.feed ∧ (creditInterval s).dust = s.dust ∧
    (creditInterval s).qli = s.qli ∧ (creditInterval s).peers = s.peers ∧ (creditInterval s).plan = s.plan ∧
    (creditInterval s).claim = s.claim ∧ (creditInterval s).travel = s.travel ∧ (creditInterval s).spout = s.spout ∧
    (creditInterval s).cycle = s.cycle ∧ (creditInterval s).bills = s.bills := by
  unfold creditInterval; try dsimp only
  repeat' split
  all_goals (repeat' apply And.intro) <;> first | (simp; done) | rfl

@[simp] theorem endCalibration_frame (r : ZeroResult) (s : State) :
    (endCalibration r s).pending = s.pending ∧ (endCalibration r s).running = s.running ∧
    (endCalibration r s).station = s.station ∧ (endCalibration r s).seconds = s.seconds ∧
    (endCalibration r s).base = s.base ∧ (endCalibration r s).freeIx = s.freeIx ∧
    (endCalibration r s).pins = s.pins ∧ (endCalibration r s).cfg = s.cfg ∧
    (endCalibration r s).link.buf = s.link.buf ∧ (endCalibration r s).link.miso = s.link.miso ∧
    (endCalibration r s).link.enables = s.link.enables ∧ (endCalibration r s).conv = s.conv ∧
    (endCalibration r s).scale.total = s.scale.total ∧ (endCalibration r s).scale.stray = s.scale.stray ∧
    (endCalibration r s).scale.closed = s.scale.closed ∧ (endCalibration r s).scale.openGrams = s.scale.openGrams ∧
    (endCalibration r s).scale.pourOpen = s.scale.pourOpen ∧
    (endCalibration r s).scale.saturated = s.scale.saturated ∧
    (endCalibration r s).scale.snapshot = s.scale.snapshot ∧ (endCalibration r s).feed = s.feed ∧
    (endCalibration r s).dust = s.dust ∧ (endCalibration r s).qli = s.qli ∧ (endCalibration r s).peers = s.peers ∧
    (endCalibration r s).plan = s.plan ∧ (endCalibration r s).claim = s.claim ∧
    (endCalibration r s).travel = s.travel ∧ (endCalibration r s).spout = s.spout ∧
    (endCalibration r s).cycle = s.cycle ∧ (endCalibration r s).bills = s.bills := by
  unfold endCalibration; try dsimp only
  repeat' split
  all_goals (repeat' apply And.intro) <;> first | (simp; done) | rfl

@[simp] theorem calibrate_frame (s : State) :
    (calibrate s).pending = s.pending ∧ (calibrate s).running = s.running ∧ (calibrate s).station = s.station ∧
    (calibrate s).seconds = s.seconds ∧ (calibrate s).base = s.base ∧ (calibrate s).freeIx = s.freeIx ∧
    (calibrate s).pins = s.pins ∧ (calibrate s).cfg = s.cfg ∧ (calibrate s).link.buf = s.link.buf ∧
    (calibrate s).link.miso = s.link.miso ∧ (calibrate s).link.enables = s.link.enables ∧
    (calibrate s).conv = s.conv ∧ (calibrate s).scale.total = s.scale.total ∧
    (calibrate s).scale.stray = s.scale.stray ∧ (calibrate s).scale.closed = s.scale.closed ∧
    (calibrate s).scale.openGrams = s.scale.openGrams ∧ (calibrate s).scale.pourOpen = s.scale.pourOpen ∧
    (calibrate s).scale.saturated = s.scale.saturated ∧ (calibrate s).scale.snapshot = s.scale.snapshot ∧
    (calibrate s).feed = s.feed ∧ (calibrate s).dust = s.dust ∧ (calibrate s).qli = s.qli ∧
    (calibrate s).peers = s.peers ∧ (calibrate s).plan = s.plan ∧ (calibrate s).claim = s.claim ∧
    (calibrate s).travel = s.travel ∧ (calibrate s).spout = s.spout ∧ (calibrate s).cycle = s.cycle ∧
    (calibrate s).bills = s.bills := by
  unfold calibrate; try dsimp only
  repeat' split
  all_goals (repeat' apply And.intro) <;> first | (simp; done) | rfl

@[simp] theorem trimInterval_frame (s : State) :
    (trimInterval s).pending = s.pending ∧ (trimInterval s).running = s.running ∧
    (trimInterval s).station = s.station ∧ (trimInterval s).seconds = s.seconds ∧ (trimInterval s).base = s.base ∧
    (trimInterval s).freeIx = s.freeIx ∧ (trimInterval s).pins = s.pins ∧ (trimInterval s).cfg = s.cfg ∧
    (trimInterval s).link.buf = s.link.buf ∧ (trimInterval s).link.miso = s.link.miso ∧
    (trimInterval s).link.enables = s.link.enables ∧ (trimInterval s).conv = s.conv ∧
    (trimInterval s).scale = s.scale ∧ (trimInterval s).dust.exposure = s.dust.exposure ∧
    (trimInterval s).qli.clash = s.qli.clash ∧ (trimInterval s).peers = s.peers ∧ (trimInterval s).plan = s.plan ∧
    (trimInterval s).cycle.auto = s.cycle.auto ∧ (trimInterval s).bills.stored = s.bills.stored ∧
    (trimInterval s).bills.totals = s.bills.totals ∧ (trimInterval s).bills.seq = s.bills.seq ∧
    (trimInterval s).bills.entries = s.bills.entries ∧ (trimInterval s).bills.summary = s.bills.summary ∧
    (trimInterval s).bills.openedAt = s.bills.openedAt ∧ (trimInterval s).qli.degraded = s.qli.degraded ∧
    (trimInterval s).qli.winErrors = s.qli.winErrors ∧ (trimInterval s).qli.rx = s.qli.rx ∧
    (trimInterval s).feed.setpoint = s.feed.setpoint ∧ (trimInterval s).feed.staged = s.feed.staged := by
  unfold trimInterval; try dsimp only
  repeat' split
  all_goals (repeat' apply And.intro) <;> first | (simp; done) | rfl

@[simp] theorem openPour_frame (s : State) :
    (openPour s).pending = s.pending ∧ (openPour s).running = s.running ∧ (openPour s).station = s.station ∧
    (openPour s).seconds = s.seconds ∧ (openPour s).base = s.base ∧ (openPour s).freeIx = s.freeIx ∧
    (openPour s).pins = s.pins ∧ (openPour s).cfg = s.cfg ∧ (openPour s).link.buf = s.link.buf ∧
    (openPour s).link.miso = s.link.miso ∧ (openPour s).link.enables = s.link.enables ∧ (openPour s).conv = s.conv ∧
    (openPour s).scale.total = s.scale.total ∧ (openPour s).scale.stray = s.scale.stray ∧
    (openPour s).scale.closed = s.scale.closed ∧ (openPour s).scale.saturated = s.scale.saturated ∧
    (openPour s).scale.calRunning = s.scale.calRunning ∧ (openPour s).scale.snapshot = s.scale.snapshot ∧
    (openPour s).dust.exposure = s.dust.exposure ∧ (openPour s).qli.clash = s.qli.clash ∧
    (openPour s).peers = s.peers ∧ (openPour s).plan = s.plan ∧ (openPour s).cycle.auto = s.cycle.auto ∧
    (openPour s).bills.stored = s.bills.stored ∧ (openPour s).bills.totals = s.bills.totals ∧
    (openPour s).bills.seq = s.bills.seq ∧ (openPour s).bills.entries = s.bills.entries ∧
    (openPour s).bills.summary = s.bills.summary ∧ (openPour s).qli.degraded = s.qli.degraded ∧
    (openPour s).qli.winErrors = s.qli.winErrors ∧ (openPour s).qli.rx = s.qli.rx ∧
    (openPour s).feed.setpoint = s.feed.setpoint ∧ (openPour s).feed.staged = s.feed.staged := by
  unfold openPour; try dsimp only
  repeat' split
  all_goals (repeat' apply And.intro) <;> first | (simp; done) | rfl

@[simp] theorem closeClaim_frame (r : ClosingReport) (s : State) :
    (closeClaim r s).pending = s.pending ∧ (closeClaim r s).running = s.running ∧
    (closeClaim r s).station = s.station ∧ (closeClaim r s).seconds = s.seconds ∧ (closeClaim r s).base = s.base ∧
    (closeClaim r s).freeIx = s.freeIx ∧ (closeClaim r s).pins = s.pins ∧ (closeClaim r s).cfg = s.cfg ∧
    (closeClaim r s).link.buf = s.link.buf ∧ (closeClaim r s).link.miso = s.link.miso ∧
    (closeClaim r s).link.enables = s.link.enables ∧ (closeClaim r s).conv = s.conv ∧
    (closeClaim r s).scale = s.scale ∧ (closeClaim r s).dust.exposure = s.dust.exposure ∧
    (closeClaim r s).qli.clash = s.qli.clash ∧ (closeClaim r s).peers = s.peers ∧ (closeClaim r s).plan = s.plan ∧
    (closeClaim r s).cycle.auto = s.cycle.auto ∧ (closeClaim r s).bills.stored = s.bills.stored ∧
    (closeClaim r s).bills.totals = s.bills.totals ∧ (closeClaim r s).bills.seq = s.bills.seq ∧
    (closeClaim r s).bills.entries = s.bills.entries ∧ (closeClaim r s).bills.summary = s.bills.summary ∧
    (closeClaim r s).bills.openedAt = s.bills.openedAt ∧ (closeClaim r s).qli.degraded = s.qli.degraded ∧
    (closeClaim r s).qli.winErrors = s.qli.winErrors ∧ (closeClaim r s).qli.rx = s.qli.rx ∧
    (closeClaim r s).feed.setpoint = s.feed.setpoint ∧ (closeClaim r s).feed.staged = s.feed.staged := by
  unfold closeClaim; try dsimp only
  repeat' split
  all_goals (repeat' apply And.intro) <;> first | (simp; done) | rfl

@[simp] theorem completeEnd_frame (kg : Nat) (s : State) :
    (completeEnd kg s).pending = s.pending ∧ (completeEnd kg s).running = s.running ∧
    (completeEnd kg s).station = s.station ∧ (completeEnd kg s).seconds = s.seconds ∧
    (completeEnd kg s).base = s.base ∧ (completeEnd kg s).freeIx = s.freeIx ∧ (completeEnd kg s).pins = s.pins ∧
    (completeEnd kg s).cfg = s.cfg ∧ (completeEnd kg s).link.buf = s.link.buf ∧
    (completeEnd kg s).link.miso = s.link.miso ∧ (completeEnd kg s).link.enables = s.link.enables ∧
    (completeEnd kg s).conv = s.conv ∧ (completeEnd kg s).scale = s.scale ∧ (completeEnd kg s).feed = s.feed ∧
    (completeEnd kg s).dust.exposure = s.dust.exposure ∧ (completeEnd kg s).qli.clash = s.qli.clash ∧
    (completeEnd kg s).peers = s.peers ∧ (completeEnd kg s).plan = s.plan ∧ (completeEnd kg s).spout = s.spout ∧
    (completeEnd kg s).cycle.auto = s.cycle.auto ∧ (completeEnd kg s).bills.stored = s.bills.stored ∧
    (completeEnd kg s).bills.totals = s.bills.totals ∧ (completeEnd kg s).bills.seq = s.bills.seq ∧
    (completeEnd kg s).bills.entries = s.bills.entries ∧ (completeEnd kg s).bills.summary = s.bills.summary ∧
    (completeEnd kg s).bills.openedAt = s.bills.openedAt ∧ (completeEnd kg s).travel.count = s.travel.count ∧
    (completeEnd kg s).travel.referenced = s.travel.referenced ∧ (completeEnd kg s).qli.degraded = s.qli.degraded ∧
    (completeEnd kg s).qli.winErrors = s.qli.winErrors ∧ (completeEnd kg s).qli.rx = s.qli.rx := by
  unfold completeEnd; try dsimp only
  repeat' split
  all_goals (repeat' apply And.intro) <;> first | (simp; done) | rfl

@[simp] theorem closeFeed_frame (s : State) :
    (closeFeed s).pending = s.pending ∧ (closeFeed s).running = s.running ∧ (closeFeed s).station = s.station ∧
    (closeFeed s).seconds = s.seconds ∧ (closeFeed s).base = s.base ∧ (closeFeed s).freeIx = s.freeIx ∧
    (closeFeed s).pins = s.pins ∧ (closeFeed s).cfg = s.cfg ∧ (closeFeed s).link = s.link ∧
    (closeFeed s).conv = s.conv ∧ (closeFeed s).scale = s.scale ∧ (closeFeed s).dust = s.dust ∧
    (closeFeed s).qli = s.qli ∧ (closeFeed s).peers = s.peers ∧ (closeFeed s).plan = s.plan ∧
    (closeFeed s).claim = s.claim ∧ (closeFeed s).travel = s.travel ∧ (closeFeed s).spout = s.spout ∧
    (closeFeed s).cycle = s.cycle ∧ (closeFeed s).bills = s.bills ∧ (closeFeed s).feed.setpoint = s.feed.setpoint ∧
    (closeFeed s).feed.staged = s.feed.staged := by
  unfold closeFeed; try dsimp only
  repeat' split
  all_goals (repeat' apply And.intro) <;> first | (simp; done) | rfl

@[simp] theorem tallyBill_frame (b : Bill) (s : State) :
    (tallyBill b s).pending = s.pending ∧ (tallyBill b s).running = s.running ∧
    (tallyBill b s).station = s.station ∧ (tallyBill b s).seconds = s.seconds ∧ (tallyBill b s).base = s.base ∧
    (tallyBill b s).freeIx = s.freeIx ∧ (tallyBill b s).pins = s.pins ∧ (tallyBill b s).cfg = s.cfg ∧
    (tallyBill b s).link = s.link ∧ (tallyBill b s).conv = s.conv ∧ (tallyBill b s).scale = s.scale ∧
    (tallyBill b s).feed = s.feed ∧ (tallyBill b s).dust = s.dust ∧ (tallyBill b s).qli = s.qli ∧
    (tallyBill b s).peers = s.peers ∧ (tallyBill b s).plan = s.plan ∧ (tallyBill b s).claim = s.claim ∧
    (tallyBill b s).travel = s.travel ∧ (tallyBill b s).spout = s.spout ∧ (tallyBill b s).cycle = s.cycle ∧
    (tallyBill b s).bills.stored = s.bills.stored ∧ (tallyBill b s).bills.seq = s.bills.seq ∧
    (tallyBill b s).bills.summary = s.bills.summary ∧ (tallyBill b s).bills.openedAt = s.bills.openedAt := by
  unfold tallyBill; try dsimp only
  repeat' split
  all_goals (repeat' apply And.intro) <;> first | (simp; done) | rfl

@[simp] theorem storeBill_frame (r : ClosingReport) (s : State) :
    (storeBill r s).pending = s.pending ∧ (storeBill r s).running = s.running ∧
    (storeBill r s).station = s.station ∧ (storeBill r s).seconds = s.seconds ∧ (storeBill r s).base = s.base ∧
    (storeBill r s).freeIx = s.freeIx ∧ (storeBill r s).pins = s.pins ∧ (storeBill r s).cfg = s.cfg ∧
    (storeBill r s).link.buf = s.link.buf ∧ (storeBill r s).link.miso = s.link.miso ∧
    (storeBill r s).link.enables = s.link.enables ∧ (storeBill r s).conv = s.conv ∧
    (storeBill r s).scale = s.scale ∧ (storeBill r s).feed = s.feed ∧ (storeBill r s).dust = s.dust ∧
    (storeBill r s).qli = s.qli ∧ (storeBill r s).peers = s.peers ∧ (storeBill r s).plan = s.plan ∧
    (storeBill r s).claim = s.claim ∧ (storeBill r s).travel = s.travel ∧ (storeBill r s).spout = s.spout ∧
    (storeBill r s).cycle = s.cycle ∧ (storeBill r s).bills.summary = s.bills.summary := by
  unfold storeBill; try dsimp only
  repeat' split
  all_goals (repeat' apply And.intro) <;> first | (simp; done) | rfl

@[simp] theorem endAfterClose_frame (r : ClosingReport) (s : State) :
    (endAfterClose r s).pending = s.pending ∧ (endAfterClose r s).running = s.running ∧
    (endAfterClose r s).station = s.station ∧ (endAfterClose r s).seconds = s.seconds ∧
    (endAfterClose r s).base = s.base ∧ (endAfterClose r s).freeIx = s.freeIx ∧ (endAfterClose r s).pins = s.pins ∧
    (endAfterClose r s).cfg = s.cfg ∧ (endAfterClose r s).link.buf = s.link.buf ∧
    (endAfterClose r s).link.miso = s.link.miso ∧ (endAfterClose r s).link.enables = s.link.enables ∧
    (endAfterClose r s).conv = s.conv ∧ (endAfterClose r s).scale = s.scale ∧ (endAfterClose r s).feed = s.feed ∧
    (endAfterClose r s).dust.exposure = s.dust.exposure ∧ (endAfterClose r s).qli.clash = s.qli.clash ∧
    (endAfterClose r s).peers = s.peers ∧ (endAfterClose r s).plan = s.plan ∧ (endAfterClose r s).spout = s.spout ∧
    (endAfterClose r s).cycle.auto = s.cycle.auto ∧ (endAfterClose r s).bills.stored = s.bills.stored ∧
    (endAfterClose r s).bills.totals = s.bills.totals ∧ (endAfterClose r s).bills.seq = s.bills.seq ∧
    (endAfterClose r s).bills.entries = s.bills.entries ∧ (endAfterClose r s).bills.summary = s.bills.summary ∧
    (endAfterClose r s).bills.openedAt = s.bills.openedAt ∧ (endAfterClose r s).travel.count = s.travel.count ∧
    (endAfterClose r s).travel.referenced = s.travel.referenced ∧
    (endAfterClose r s).qli.degraded = s.qli.degraded ∧ (endAfterClose r s).qli.winErrors = s.qli.winErrors ∧
    (endAfterClose r s).qli.rx = s.qli.rx := by
  unfold endAfterClose; try dsimp only
  repeat' split
  all_goals (repeat' apply And.intro) <;> first | (simp; done) | rfl

@[simp] theorem closePour_frame (o : PourOutcome) (s : State) :
    (closePour o s).pending = s.pending ∧ (closePour o s).running = s.running ∧
    (closePour o s).station = s.station ∧ (closePour o s).seconds = s.seconds ∧ (closePour o s).base = s.base ∧
    (closePour o s).freeIx = s.freeIx ∧ (closePour o s).pins = s.pins ∧ (closePour o s).cfg = s.cfg ∧
    (closePour o s).link.buf = s.link.buf ∧ (closePour o s).link.miso = s.link.miso ∧
    (closePour o s).link.enables = s.link.enables ∧ (closePour o s).conv = s.conv ∧
    (closePour o s).dust.exposure = s.dust.exposure ∧ (closePour o s).qli.clash = s.qli.clash ∧
    (closePour o s).peers = s.peers ∧ (closePour o s).plan = s.plan ∧ (closePour o s).cycle.auto = s.cycle.auto ∧
    (closePour o s).bills.summary = s.bills.summary ∧ (closePour o s).qli.degraded = s.qli.degraded ∧
    (closePour o s).qli.winErrors = s.qli.winErrors ∧ (closePour o s).qli.rx = s.qli.rx ∧
    (closePour o s).feed.setpoint = s.feed.setpoint ∧ (closePour o s).feed.staged = s.feed.staged := by
  unfold closePour; try dsimp only
  repeat' split
  all_goals (repeat' apply And.intro) <;> first | (simp; done) | rfl

@[simp] theorem openOrClose_frame (s : State) :
    (openOrClose s).pending = s.pending ∧ (openOrClose s).running = s.running ∧
    (openOrClose s).station = s.station ∧ (openOrClose s).seconds = s.seconds ∧ (openOrClose s).base = s.base ∧
    (openOrClose s).freeIx = s.freeIx ∧ (openOrClose s).pins = s.pins ∧ (openOrClose s).cfg = s.cfg ∧
    (openOrClose s).link.buf = s.link.buf ∧ (openOrClose s).link.miso = s.link.miso ∧
    (openOrClose s).link.enables = s.link.enables ∧ (openOrClose s).conv = s.conv ∧
    (openOrClose s).dust.exposure = s.dust.exposure ∧ (openOrClose s).qli.clash = s.qli.clash ∧
    (openOrClose s).peers = s.peers ∧ (openOrClose s).plan = s.plan ∧ (openOrClose s).cycle.auto = s.cycle.auto ∧
    (openOrClose s).bills.summary = s.bills.summary ∧ (openOrClose s).qli.degraded = s.qli.degraded ∧
    (openOrClose s).qli.winErrors = s.qli.winErrors ∧ (openOrClose s).qli.rx = s.qli.rx ∧
    (openOrClose s).feed.setpoint = s.feed.setpoint ∧ (openOrClose s).feed.staged = s.feed.staged := by
  unfold openOrClose; try dsimp only
  repeat' split
  all_goals (repeat' apply And.intro) <;> first | (simp; done) | rfl

@[simp] theorem nextInterval_frame (flags : IntervalFlags) (s : State) :
    (nextInterval flags s).pending = s.pending ∧ (nextInterval flags s).running = s.running ∧
    (nextInterval flags s).station = s.station ∧ (nextInterval flags s).seconds = s.seconds ∧
    (nextInterval flags s).base = s.base ∧ (nextInterval flags s).freeIx = s.freeIx ∧
    (nextInterval flags s).pins = s.pins ∧ (nextInterval flags s).cfg = s.cfg ∧
    (nextInterval flags s).link = s.link ∧ (nextInterval flags s).scale.total = s.scale.total ∧
    (nextInterval flags s).scale.stray = s.scale.stray ∧ (nextInterval flags s).scale.closed = s.scale.closed ∧
    (nextInterval flags s).scale.openGrams = s.scale.openGrams ∧
    (nextInterval flags s).scale.pourOpen = s.scale.pourOpen ∧
    (nextInterval flags s).scale.saturated = s.scale.saturated ∧
    (nextInterval flags s).scale.calRunning = s.scale.calRunning ∧
    (nextInterval flags s).scale.snapshot = s.scale.snapshot ∧ (nextInterval flags s).feed = s.feed ∧
    (nextInterval flags s).dust.exposure = s.dust.exposure ∧ (nextInterval flags s).qli = s.qli ∧
    (nextInterval flags s).peers = s.peers ∧ (nextInterval flags s).plan = s.plan ∧
    (nextInterval flags s).claim = s.claim ∧ (nextInterval flags s).travel = s.travel ∧
    (nextInterval flags s).spout = s.spout ∧ (nextInterval flags s).cycle = s.cycle ∧
    (nextInterval flags s).bills = s.bills := by
  unfold nextInterval; try dsimp only
  repeat' split
  all_goals (repeat' apply And.intro) <;> first | (simp; done) | rfl

@[simp] theorem regulateInterval_frame (credited : Bool) (g : Nat) (s : State) :
    (regulateInterval credited g s).pending = s.pending ∧ (regulateInterval credited g s).running = s.running ∧
    (regulateInterval credited g s).station = s.station ∧ (regulateInterval credited g s).seconds = s.seconds ∧
    (regulateInterval credited g s).base = s.base ∧ (regulateInterval credited g s).freeIx = s.freeIx ∧
    (regulateInterval credited g s).pins = s.pins ∧ (regulateInterval credited g s).cfg = s.cfg ∧
    (regulateInterval credited g s).link.buf = s.link.buf ∧
    (regulateInterval credited g s).link.miso = s.link.miso ∧
    (regulateInterval credited g s).link.enables = s.link.enables ∧ (regulateInterval credited g s).conv = s.conv ∧
    (regulateInterval credited g s).scale = s.scale ∧
    (regulateInterval credited g s).dust.exposure = s.dust.exposure ∧
    (regulateInterval credited g s).qli.clash = s.qli.clash ∧ (regulateInterval credited g s).peers = s.peers ∧
    (regulateInterval credited g s).plan = s.plan ∧ (regulateInterval credited g s).cycle.auto = s.cycle.auto ∧
    (regulateInterval credited g s).bills.stored = s.bills.stored ∧
    (regulateInterval credited g s).bills.totals = s.bills.totals ∧
    (regulateInterval credited g s).bills.seq = s.bills.seq ∧
    (regulateInterval credited g s).bills.entries = s.bills.entries ∧
    (regulateInterval credited g s).bills.summary = s.bills.summary ∧
    (regulateInterval credited g s).bills.openedAt = s.bills.openedAt ∧
    (regulateInterval credited g s).qli.degraded = s.qli.degraded ∧
    (regulateInterval credited g s).qli.winErrors = s.qli.winErrors ∧
    (regulateInterval credited g s).qli.rx = s.qli.rx := by
  unfold regulateInterval; try dsimp only
  repeat' split
  all_goals (repeat' apply And.intro) <;> first | (simp; done) | rfl

@[simp] theorem intervalEnd_frame (s : State) :
    (intervalEnd s).pending = s.pending ∧ (intervalEnd s).running = s.running ∧
    (intervalEnd s).station = s.station ∧ (intervalEnd s).seconds = s.seconds ∧ (intervalEnd s).base = s.base ∧
    (intervalEnd s).freeIx = s.freeIx ∧ (intervalEnd s).pins = s.pins ∧ (intervalEnd s).cfg = s.cfg ∧
    (intervalEnd s).link.buf = s.link.buf ∧ (intervalEnd s).link.miso = s.link.miso ∧
    (intervalEnd s).link.enables = s.link.enables ∧ (intervalEnd s).dust.exposure = s.dust.exposure ∧
    (intervalEnd s).qli.clash = s.qli.clash ∧ (intervalEnd s).peers = s.peers ∧ (intervalEnd s).plan = s.plan ∧
    (intervalEnd s).cycle.auto = s.cycle.auto ∧ (intervalEnd s).bills.summary = s.bills.summary ∧
    (intervalEnd s).qli.degraded = s.qli.degraded ∧ (intervalEnd s).qli.winErrors = s.qli.winErrors ∧
    (intervalEnd s).qli.rx = s.qli.rx := by
  unfold intervalEnd; try dsimp only
  repeat' split
  all_goals (repeat' apply And.intro) <;> first | (simp; done) | rfl

@[simp] theorem shiftFrame_frame (n : Nat) (s : State) :
    (shiftFrame n s).pending = s.pending ∧ (shiftFrame n s).running = s.running ∧
    (shiftFrame n s).station = s.station ∧ (shiftFrame n s).seconds = s.seconds ∧ (shiftFrame n s).base = s.base ∧
    (shiftFrame n s).freeIx = s.freeIx ∧ (shiftFrame n s).pins = s.pins ∧ (shiftFrame n s).cfg = s.cfg ∧
    (shiftFrame n s).link.enables = s.link.enables ∧ (shiftFrame n s).conv = s.conv ∧
    (shiftFrame n s).scale = s.scale ∧ (shiftFrame n s).feed = s.feed ∧ (shiftFrame n s).dust = s.dust ∧
    (shiftFrame n s).qli = s.qli ∧ (shiftFrame n s).peers = s.peers ∧ (shiftFrame n s).plan = s.plan ∧
    (shiftFrame n s).claim = s.claim ∧ (shiftFrame n s).travel = s.travel ∧ (shiftFrame n s).spout = s.spout ∧
    (shiftFrame n s).cycle = s.cycle ∧ (shiftFrame n s).bills = s.bills := by
  unfold shiftFrame; try dsimp only
  repeat' split
  all_goals (repeat' apply And.intro) <;> first | (simp; done) | rfl

@[simp] theorem respond_frame (code : Byte) (a : Answer) (s : State) :
    (respond code a s).pending = s.pending ∧ (respond code a s).running = s.running ∧
    (respond code a s).station = s.station ∧ (respond code a s).seconds = s.seconds ∧
    (respond code a s).base = s.base ∧ (respond code a s).freeIx = s.freeIx ∧ (respond code a s).pins = s.pins ∧
    (respond code a s).cfg = s.cfg ∧ (respond code a s).link.miso = s.link.miso ∧
    (respond code a s).link.enables = s.link.enables ∧ (respond code a s).conv = s.conv ∧
    (respond code a s).scale = s.scale ∧ (respond code a s).feed = s.feed ∧ (respond code a s).dust = s.dust ∧
    (respond code a s).qli = s.qli ∧ (respond code a s).peers = s.peers ∧ (respond code a s).plan = s.plan ∧
    (respond code a s).claim = s.claim ∧ (respond code a s).travel = s.travel ∧ (respond code a s).spout = s.spout ∧
    (respond code a s).cycle = s.cycle ∧ (respond code a s).bills = s.bills := by
  unfold respond; try dsimp only
  repeat' split
  all_goals (repeat' apply And.intro) <;> first | (simp; done) | rfl

@[simp] theorem dustSecond_frame (s : State) :
    (dustSecond s).pending = s.pending ∧ (dustSecond s).running = s.running ∧ (dustSecond s).station = s.station ∧
    (dustSecond s).seconds = s.seconds ∧ (dustSecond s).base = s.base ∧ (dustSecond s).freeIx = s.freeIx ∧
    (dustSecond s).pins = s.pins ∧ (dustSecond s).cfg = s.cfg ∧ (dustSecond s).link.buf = s.link.buf ∧
    (dustSecond s).link.miso = s.link.miso ∧ (dustSecond s).link.enables = s.link.enables ∧
    (dustSecond s).conv = s.conv ∧ (dustSecond s).scale = s.scale ∧ (dustSecond s).feed = s.feed ∧
    (dustSecond s).dust.exposure = s.dust.exposure ∧ (dustSecond s).qli.clash = s.qli.clash ∧
    (dustSecond s).peers = s.peers ∧ (dustSecond s).plan = s.plan ∧ (dustSecond s).spout = s.spout ∧
    (dustSecond s).cycle.auto = s.cycle.auto ∧ (dustSecond s).bills.stored = s.bills.stored ∧
    (dustSecond s).bills.totals = s.bills.totals ∧ (dustSecond s).bills.seq = s.bills.seq ∧
    (dustSecond s).bills.entries = s.bills.entries ∧ (dustSecond s).bills.summary = s.bills.summary ∧
    (dustSecond s).bills.openedAt = s.bills.openedAt ∧ (dustSecond s).travel.count = s.travel.count ∧
    (dustSecond s).travel.referenced = s.travel.referenced ∧ (dustSecond s).qli.degraded = s.qli.degraded ∧
    (dustSecond s).qli.winErrors = s.qli.winErrors ∧ (dustSecond s).qli.rx = s.qli.rx := by
  unfold dustSecond; try dsimp only
  repeat' split
  all_goals (repeat' apply And.intro) <;> first | (simp; done) | rfl

@[simp] theorem tallySecond_frame (s : State) :
    (tallySecond s).pending = s.pending ∧ (tallySecond s).running = s.running ∧
    (tallySecond s).station = s.station ∧ (tallySecond s).seconds = s.seconds ∧ (tallySecond s).base = s.base ∧
    (tallySecond s).freeIx = s.freeIx ∧ (tallySecond s).pins = s.pins ∧ (tallySecond s).cfg = s.cfg ∧
    (tallySecond s).link.buf = s.link.buf ∧ (tallySecond s).link.miso = s.link.miso ∧
    (tallySecond s).link.enables = s.link.enables ∧ (tallySecond s).conv = s.conv ∧
    (tallySecond s).scale = s.scale ∧ (tallySecond s).feed = s.feed ∧
    (tallySecond s).dust.exposure = s.dust.exposure ∧ (tallySecond s).qli.clash = s.qli.clash ∧
    (tallySecond s).peers = s.peers ∧ (tallySecond s).plan = s.plan ∧ (tallySecond s).spout = s.spout ∧
    (tallySecond s).cycle.auto = s.cycle.auto ∧ (tallySecond s).bills.stored = s.bills.stored ∧
    (tallySecond s).bills.totals = s.bills.totals ∧ (tallySecond s).bills.seq = s.bills.seq ∧
    (tallySecond s).bills.entries = s.bills.entries ∧ (tallySecond s).bills.summary = s.bills.summary ∧
    (tallySecond s).bills.openedAt = s.bills.openedAt ∧ (tallySecond s).travel.count = s.travel.count ∧
    (tallySecond s).travel.referenced = s.travel.referenced ∧ (tallySecond s).qli.degraded = s.qli.degraded ∧
    (tallySecond s).qli.winErrors = s.qli.winErrors ∧ (tallySecond s).qli.rx = s.qli.rx := by
  unfold tallySecond; try dsimp only
  repeat' split
  all_goals (repeat' apply And.intro) <;> first | (simp; done) | rfl

@[simp] theorem secondTickActs_frame (s : State) :
    (secondTickActs s).pending = s.pending ∧ (secondTickActs s).running = s.running ∧
    (secondTickActs s).station = s.station ∧ (secondTickActs s).base = s.base ∧
    (secondTickActs s).freeIx = s.freeIx ∧ (secondTickActs s).pins = s.pins ∧ (secondTickActs s).cfg = s.cfg ∧
    (secondTickActs s).link.buf = s.link.buf ∧ (secondTickActs s).link.miso = s.link.miso ∧
    (secondTickActs s).link.enables = s.link.enables ∧ (secondTickActs s).conv = s.conv ∧
    (secondTickActs s).scale = s.scale ∧ (secondTickActs s).feed = s.feed ∧
    (secondTickActs s).dust.exposure = s.dust.exposure ∧ (secondTickActs s).qli.clash = s.qli.clash ∧
    (secondTickActs s).peers = s.peers ∧ (secondTickActs s).plan = s.plan ∧ (secondTickActs s).spout = s.spout ∧
    (secondTickActs s).cycle.auto = s.cycle.auto ∧ (secondTickActs s).bills.stored = s.bills.stored ∧
    (secondTickActs s).bills.totals = s.bills.totals ∧ (secondTickActs s).bills.seq = s.bills.seq ∧
    (secondTickActs s).bills.entries = s.bills.entries ∧ (secondTickActs s).bills.summary = s.bills.summary ∧
    (secondTickActs s).bills.openedAt = s.bills.openedAt ∧ (secondTickActs s).travel.count = s.travel.count ∧
    (secondTickActs s).travel.referenced = s.travel.referenced ∧ (secondTickActs s).qli.degraded = s.qli.degraded ∧
    (secondTickActs s).qli.winErrors = s.qli.winErrors ∧ (secondTickActs s).qli.rx = s.qli.rx := by
  unfold secondTickActs; try dsimp only
  repeat' split
  all_goals (repeat' apply And.intro) <;> first | (simp; done) | rfl

@[simp] theorem resendClose_frame (s : State) :
    (resendClose s).pending = s.pending ∧ (resendClose s).running = s.running ∧
    (resendClose s).station = s.station ∧ (resendClose s).seconds = s.seconds ∧ (resendClose s).base = s.base ∧
    (resendClose s).freeIx = s.freeIx ∧ (resendClose s).pins = s.pins ∧ (resendClose s).cfg = s.cfg ∧
    (resendClose s).link.buf = s.link.buf ∧ (resendClose s).link.miso = s.link.miso ∧
    (resendClose s).link.enables = s.link.enables ∧ (resendClose s).conv = s.conv ∧
    (resendClose s).scale = s.scale ∧ (resendClose s).feed = s.feed ∧
    (resendClose s).dust.exposure = s.dust.exposure ∧ (resendClose s).qli.clash = s.qli.clash ∧
    (resendClose s).peers = s.peers ∧ (resendClose s).plan = s.plan ∧ (resendClose s).spout = s.spout ∧
    (resendClose s).cycle.auto = s.cycle.auto ∧ (resendClose s).bills.stored = s.bills.stored ∧
    (resendClose s).bills.totals = s.bills.totals ∧ (resendClose s).bills.seq = s.bills.seq ∧
    (resendClose s).bills.entries = s.bills.entries ∧ (resendClose s).bills.summary = s.bills.summary ∧
    (resendClose s).bills.openedAt = s.bills.openedAt ∧ (resendClose s).travel.count = s.travel.count ∧
    (resendClose s).travel.referenced = s.travel.referenced ∧ (resendClose s).qli.degraded = s.qli.degraded ∧
    (resendClose s).qli.winErrors = s.qli.winErrors ∧ (resendClose s).qli.rx = s.qli.rx := by
  unfold resendClose; try dsimp only
  repeat' split
  all_goals (repeat' apply And.intro) <;> first | (simp; done) | rfl

@[simp] theorem holdTick_frame (s : State) :
    (holdTick s).pending = s.pending ∧ (holdTick s).running = s.running ∧ (holdTick s).station = s.station ∧
    (holdTick s).seconds = s.seconds ∧ (holdTick s).base = s.base ∧ (holdTick s).freeIx = s.freeIx ∧
    (holdTick s).pins = s.pins ∧ (holdTick s).cfg = s.cfg ∧ (holdTick s).link.buf = s.link.buf ∧
    (holdTick s).link.miso = s.link.miso ∧ (holdTick s).link.enables = s.link.enables ∧ (holdTick s).conv = s.conv ∧
    (holdTick s).scale = s.scale ∧ (holdTick s).feed = s.feed ∧ (holdTick s).dust.exposure = s.dust.exposure ∧
    (holdTick s).qli.clash = s.qli.clash ∧ (holdTick s).peers = s.peers ∧ (holdTick s).plan = s.plan ∧
    (holdTick s).spout = s.spout ∧ (holdTick s).cycle.auto = s.cycle.auto ∧
    (holdTick s).bills.stored = s.bills.stored ∧ (holdTick s).bills.totals = s.bills.totals ∧
    (holdTick s).bills.seq = s.bills.seq ∧ (holdTick s).bills.entries = s.bills.entries ∧
    (holdTick s).bills.summary = s.bills.summary ∧ (holdTick s).bills.openedAt = s.bills.openedAt ∧
    (holdTick s).qli.degraded = s.qli.degraded ∧ (holdTick s).qli.winErrors = s.qli.winErrors ∧
    (holdTick s).qli.rx = s.qli.rx := by
  unfold holdTick; try dsimp only
  repeat' split
  all_goals (repeat' apply And.intro) <;> first | (simp; done) | rfl

@[simp] theorem beaconTickActs_frame (s : State) :
    (beaconTickActs s).pending = s.pending ∧ (beaconTickActs s).running = s.running ∧
    (beaconTickActs s).station = s.station ∧ (beaconTickActs s).seconds = s.seconds ∧
    (beaconTickActs s).base = s.base ∧ (beaconTickActs s).freeIx = s.freeIx ∧ (beaconTickActs s).pins = s.pins ∧
    (beaconTickActs s).cfg = s.cfg ∧ (beaconTickActs s).link.buf = s.link.buf ∧
    (beaconTickActs s).link.miso = s.link.miso ∧ (beaconTickActs s).link.enables = s.link.enables ∧
    (beaconTickActs s).conv = s.conv ∧ (beaconTickActs s).scale = s.scale ∧
    (beaconTickActs s).dust.exposure = s.dust.exposure ∧ (beaconTickActs s).qli.clash = s.qli.clash ∧
    (beaconTickActs s).peers = s.peers ∧ (beaconTickActs s).plan = s.plan ∧
    (beaconTickActs s).cycle.auto = s.cycle.auto ∧ (beaconTickActs s).bills.stored = s.bills.stored ∧
    (beaconTickActs s).bills.totals = s.bills.totals ∧ (beaconTickActs s).bills.seq = s.bills.seq ∧
    (beaconTickActs s).bills.entries = s.bills.entries ∧ (beaconTickActs s).bills.summary = s.bills.summary ∧
    (beaconTickActs s).bills.openedAt = s.bills.openedAt ∧ (beaconTickActs s).qli.degraded = s.qli.degraded ∧
    (beaconTickActs s).qli.winErrors = s.qli.winErrors ∧ (beaconTickActs s).qli.rx = s.qli.rx ∧
    (beaconTickActs s).feed.setpoint = s.feed.setpoint ∧ (beaconTickActs s).feed.staged = s.feed.staged := by
  unfold beaconTickActs; try dsimp only
  repeat' split
  all_goals (repeat' apply And.intro) <;> first | (simp; done) | rfl

@[simp] theorem setPeer_frame (i : Nat) (p : Peer) (s : State) :
    (setPeer i p s).pending = s.pending ∧ (setPeer i p s).running = s.running ∧
    (setPeer i p s).station = s.station ∧ (setPeer i p s).seconds = s.seconds ∧ (setPeer i p s).base = s.base ∧
    (setPeer i p s).freeIx = s.freeIx ∧ (setPeer i p s).pins = s.pins ∧ (setPeer i p s).cfg = s.cfg ∧
    (setPeer i p s).link = s.link ∧ (setPeer i p s).conv = s.conv ∧ (setPeer i p s).scale = s.scale ∧
    (setPeer i p s).feed = s.feed ∧ (setPeer i p s).dust = s.dust ∧ (setPeer i p s).qli = s.qli ∧
    (setPeer i p s).plan = s.plan ∧ (setPeer i p s).claim = s.claim ∧ (setPeer i p s).travel = s.travel ∧
    (setPeer i p s).spout = s.spout ∧ (setPeer i p s).cycle = s.cycle ∧ (setPeer i p s).bills = s.bills := by
  unfold setPeer; try dsimp only
  repeat' split
  all_goals (repeat' apply And.intro) <;> first | (simp; done) | rfl

@[simp] theorem silencePeer_frame (i : Nat) (s : State) :
    (silencePeer i s).pending = s.pending ∧ (silencePeer i s).running = s.running ∧
    (silencePeer i s).station = s.station ∧ (silencePeer i s).seconds = s.seconds ∧
    (silencePeer i s).base = s.base ∧ (silencePeer i s).freeIx = s.freeIx ∧ (silencePeer i s).pins = s.pins ∧
    (silencePeer i s).cfg = s.cfg ∧ (silencePeer i s).link.buf = s.link.buf ∧
    (silencePeer i s).link.miso = s.link.miso ∧ (silencePeer i s).link.enables = s.link.enables ∧
    (silencePeer i s).conv = s.conv ∧ (silencePeer i s).scale = s.scale ∧ (silencePeer i s).feed = s.feed ∧
    (silencePeer i s).dust = s.dust ∧ (silencePeer i s).qli = s.qli ∧ (silencePeer i s).plan = s.plan ∧
    (silencePeer i s).claim = s.claim ∧ (silencePeer i s).travel = s.travel ∧ (silencePeer i s).spout = s.spout ∧
    (silencePeer i s).cycle = s.cycle ∧ (silencePeer i s).bills = s.bills := by
  unfold silencePeer; try dsimp only
  repeat' split
  all_goals (repeat' apply And.intro) <;> first | (simp; done) | rfl

@[simp] theorem countError_frame (e : RxError) (s : State) :
    (countError e s).pending = s.pending ∧ (countError e s).running = s.running ∧
    (countError e s).station = s.station ∧ (countError e s).seconds = s.seconds ∧ (countError e s).base = s.base ∧
    (countError e s).freeIx = s.freeIx ∧ (countError e s).pins = s.pins ∧ (countError e s).cfg = s.cfg ∧
    (countError e s).link.buf = s.link.buf ∧ (countError e s).link.miso = s.link.miso ∧
    (countError e s).link.enables = s.link.enables ∧ (countError e s).conv = s.conv ∧
    (countError e s).scale = s.scale ∧ (countError e s).feed = s.feed ∧
    (countError e s).dust.exposure = s.dust.exposure ∧ (countError e s).qli.clash = s.qli.clash ∧
    (countError e s).peers = s.peers ∧ (countError e s).plan = s.plan ∧ (countError e s).travel = s.travel ∧
    (countError e s).spout = s.spout ∧ (countError e s).cycle.auto = s.cycle.auto ∧
    (countError e s).bills.stored = s.bills.stored ∧ (countError e s).bills.totals = s.bills.totals ∧
    (countError e s).bills.seq = s.bills.seq ∧ (countError e s).bills.entries = s.bills.entries ∧
    (countError e s).bills.summary = s.bills.summary ∧ (countError e s).bills.openedAt = s.bills.openedAt := by
  unfold countError; try dsimp only
  repeat' split
  all_goals (repeat' apply And.intro) <;> first | (simp; done) | rfl

@[simp] theorem endLineWindow_frame (s : State) :
    (endLineWindow s).pending = s.pending ∧ (endLineWindow s).running = s.running ∧
    (endLineWindow s).station = s.station ∧ (endLineWindow s).seconds = s.seconds ∧
    (endLineWindow s).base = s.base ∧ (endLineWindow s).freeIx = s.freeIx ∧ (endLineWindow s).pins = s.pins ∧
    (endLineWindow s).cfg = s.cfg ∧ (endLineWindow s).link = s.link ∧ (endLineWindow s).conv = s.conv ∧
    (endLineWindow s).scale = s.scale ∧ (endLineWindow s).feed = s.feed ∧ (endLineWindow s).dust = s.dust ∧
    (endLineWindow s).qli.queue = s.qli.queue ∧ (endLineWindow s).qli.clash = s.qli.clash ∧
    (endLineWindow s).peers = s.peers ∧ (endLineWindow s).plan = s.plan ∧ (endLineWindow s).claim = s.claim ∧
    (endLineWindow s).travel = s.travel ∧ (endLineWindow s).spout = s.spout ∧ (endLineWindow s).cycle = s.cycle ∧
    (endLineWindow s).bills = s.bills ∧ (endLineWindow s).qli.rx = s.qli.rx := by
  unfold endLineWindow; try dsimp only
  repeat' split
  all_goals (repeat' apply And.intro) <;> first | (simp; done) | rfl

end Sys2Proof.Machine
end

