-- ==== Sys2Proof/Laws/Commands.lean ====
section
/-! SUPPORT. Frame lemmas: what the acts of one command each leave unchanged.
Each `<op>_frame` is one conjunction, so that simp rewrites with every part of it and no caller unfolds the operation. -/

namespace Sys2Proof.Machine

@[simp] theorem acceptRail_frame (c : RailCfg) (s : State) :
    (acceptRail c s).pending = s.pending ∧ (acceptRail c s).running = s.running ∧
    (acceptRail c s).station = s.station ∧ (acceptRail c s).seconds = s.seconds ∧ (acceptRail c s).base = s.base ∧
    (acceptRail c s).freeIx = s.freeIx ∧ (acceptRail c s).pins = s.pins ∧ (acceptRail c s).link.buf = s.link.buf ∧
    (acceptRail c s).link.miso = s.link.miso ∧ (acceptRail c s).link.enables = s.link.enables ∧
    (acceptRail c s).conv = s.conv ∧ (acceptRail c s).scale = s.scale ∧ (acceptRail c s).feed = s.feed ∧
    (acceptRail c s).dust = s.dust ∧ (acceptRail c s).qli = s.qli ∧ (acceptRail c s).plan = s.plan ∧
    (acceptRail c s).claim = s.claim ∧ (acceptRail c s).spout = s.spout ∧ (acceptRail c s).cycle = s.cycle ∧
    (acceptRail c s).bills = s.bills ∧ (acceptRail c s).travel.referenced = s.travel.referenced := by
  unfold acceptRail; try dsimp only
  repeat' split
  all_goals (repeat' apply And.intro) <;> first | (simp; done) | rfl

@[simp] theorem acceptScale_frame (c : ScaleCfg) (s : State) :
    (acceptScale c s).pending = s.pending ∧ (acceptScale c s).running = s.running ∧
    (acceptScale c s).station = s.station ∧ (acceptScale c s).seconds = s.seconds ∧
    (acceptScale c s).base = s.base ∧ (acceptScale c s).freeIx = s.freeIx ∧ (acceptScale c s).pins = s.pins ∧
    (acceptScale c s).link = s.link ∧ (acceptScale c s).conv = s.conv ∧
    (acceptScale c s).scale.total = s.scale.total ∧ (acceptScale c s).scale.stray = s.scale.stray ∧
    (acceptScale c s).scale.closed = s.scale.closed ∧ (acceptScale c s).scale.openGrams = s.scale.openGrams ∧
    (acceptScale c s).scale.pourOpen = s.scale.pourOpen ∧ (acceptScale c s).scale.saturated = s.scale.saturated ∧
    (acceptScale c s).scale.calRunning = s.scale.calRunning ∧ (acceptScale c s).scale.snapshot = s.scale.snapshot ∧
    (acceptScale c s).feed = s.feed ∧ (acceptScale c s).dust = s.dust ∧ (acceptScale c s).qli = s.qli ∧
    (acceptScale c s).peers = s.peers ∧ (acceptScale c s).plan = s.plan ∧ (acceptScale c s).claim = s.claim ∧
    (acceptScale c s).travel = s.travel ∧ (acceptScale c s).spout = s.spout ∧ (acceptScale c s).cycle = s.cycle ∧
    (acceptScale c s).bills = s.bills := by
  unfold acceptScale; try dsimp only
  repeat' split
  all_goals (repeat' apply And.intro) <;> first | (simp; done) | rfl

@[simp] theorem acceptFeed_frame (c : FeedCfg) (s : State) :
    (acceptFeed c s).pending = s.pending ∧ (acceptFeed c s).running = s.running ∧
    (acceptFeed c s).station = s.station ∧ (acceptFeed c s).seconds = s.seconds ∧ (acceptFeed c s).base = s.base ∧
    (acceptFeed c s).freeIx = s.freeIx ∧ (acceptFeed c s).pins = s.pins ∧ (acceptFeed c s).link = s.link ∧
    (acceptFeed c s).conv = s.conv ∧ (acceptFeed c s).scale = s.scale ∧ (acceptFeed c s).dust = s.dust ∧
    (acceptFeed c s).qli = s.qli ∧ (acceptFeed c s).peers = s.peers ∧ (acceptFeed c s).plan = s.plan ∧
    (acceptFeed c s).claim = s.claim ∧ (acceptFeed c s).travel = s.travel ∧ (acceptFeed c s).spout = s.spout ∧
    (acceptFeed c s).cycle = s.cycle ∧ (acceptFeed c s).bills = s.bills := by
  unfold acceptFeed; try dsimp only
  repeat' split
  all_goals (repeat' apply And.intro) <;> first | (simp; done) | rfl

@[simp] theorem acceptDust_frame (c : DustCfg) (s : State) :
    (acceptDust c s).pending = s.pending ∧ (acceptDust c s).running = s.running ∧
    (acceptDust c s).station = s.station ∧ (acceptDust c s).seconds = s.seconds ∧ (acceptDust c s).base = s.base ∧
    (acceptDust c s).freeIx = s.freeIx ∧ (acceptDust c s).pins = s.pins ∧ (acceptDust c s).link = s.link ∧
    (acceptDust c s).conv = s.conv ∧ (acceptDust c s).scale = s.scale ∧ (acceptDust c s).feed = s.feed ∧
    (acceptDust c s).dust = s.dust ∧ (acceptDust c s).qli = s.qli ∧ (acceptDust c s).peers = s.peers ∧
    (acceptDust c s).plan = s.plan ∧ (acceptDust c s).claim = s.claim ∧ (acceptDust c s).travel = s.travel ∧
    (acceptDust c s).spout = s.spout ∧ (acceptDust c s).cycle = s.cycle ∧ (acceptDust c s).bills = s.bills := by
  unfold acceptDust; try dsimp only
  repeat' split
  all_goals (repeat' apply And.intro) <;> first | (simp; done) | rfl

@[simp] theorem acceptLines_frame (c : LinesCfg) (s : State) :
    (acceptLines c s).pending = s.pending ∧ (acceptLines c s).running = s.running ∧
    (acceptLines c s).station = s.station ∧ (acceptLines c s).seconds = s.seconds ∧
    (acceptLines c s).base = s.base ∧ (acceptLines c s).freeIx = s.freeIx ∧ (acceptLines c s).pins = s.pins ∧
    (acceptLines c s).link = s.link ∧ (acceptLines c s).conv = s.conv ∧ (acceptLines c s).scale = s.scale ∧
    (acceptLines c s).feed = s.feed ∧ (acceptLines c s).dust = s.dust ∧ (acceptLines c s).qli = s.qli ∧
    (acceptLines c s).peers = s.peers ∧ (acceptLines c s).plan = s.plan ∧ (acceptLines c s).claim = s.claim ∧
    (acceptLines c s).travel = s.travel ∧ (acceptLines c s).spout = s.spout ∧ (acceptLines c s).cycle = s.cycle ∧
    (acceptLines c s).bills = s.bills := by
  unfold acceptLines; try dsimp only
  repeat' split
  all_goals (repeat' apply And.intro) <;> first | (simp; done) | rfl

@[simp] theorem acceptPatterns_frame (c : PatternsCfg) (s : State) :
    (acceptPatterns c s).pending = s.pending ∧ (acceptPatterns c s).running = s.running ∧
    (acceptPatterns c s).station = s.station ∧ (acceptPatterns c s).seconds = s.seconds ∧
    (acceptPatterns c s).base = s.base ∧ (acceptPatterns c s).freeIx = s.freeIx ∧
    (acceptPatterns c s).pins = s.pins ∧ (acceptPatterns c s).link = s.link ∧ (acceptPatterns c s).conv = s.conv ∧
    (acceptPatterns c s).scale = s.scale ∧ (acceptPatterns c s).feed = s.feed ∧ (acceptPatterns c s).dust = s.dust ∧
    (acceptPatterns c s).qli = s.qli ∧ (acceptPatterns c s).peers = s.peers ∧ (acceptPatterns c s).plan = s.plan ∧
    (acceptPatterns c s).claim = s.claim ∧ (acceptPatterns c s).travel = s.travel ∧
    (acceptPatterns c s).spout = s.spout ∧ (acceptPatterns c s).cycle = s.cycle ∧
    (acceptPatterns c s).bills = s.bills := by
  unfold acceptPatterns; try dsimp only
  repeat' split
  all_goals (repeat' apply And.intro) <;> first | (simp; done) | rfl

@[simp] theorem startCycle_frame (s : State) :
    (startCycle s).pending = s.pending ∧ (startCycle s).running = s.running ∧ (startCycle s).station = s.station ∧
    (startCycle s).seconds = s.seconds ∧ (startCycle s).base = s.base ∧ (startCycle s).freeIx = s.freeIx ∧
    (startCycle s).pins = s.pins ∧ (startCycle s).cfg = s.cfg ∧ (startCycle s).link.buf = s.link.buf ∧
    (startCycle s).link.miso = s.link.miso ∧ (startCycle s).link.enables = s.link.enables ∧
    (startCycle s).conv = s.conv ∧ (startCycle s).scale = s.scale ∧ (startCycle s).dust.exposure = s.dust.exposure ∧
    (startCycle s).qli.clash = s.qli.clash ∧ (startCycle s).peers = s.peers ∧ (startCycle s).plan = s.plan ∧
    (startCycle s).cycle.auto = s.cycle.auto ∧ (startCycle s).bills.stored = s.bills.stored ∧
    (startCycle s).bills.totals = s.bills.totals ∧ (startCycle s).bills.seq = s.bills.seq ∧
    (startCycle s).bills.entries = s.bills.entries ∧ (startCycle s).bills.summary = s.bills.summary ∧
    (startCycle s).bills.openedAt = s.bills.openedAt ∧ (startCycle s).qli.degraded = s.qli.degraded ∧
    (startCycle s).qli.winErrors = s.qli.winErrors ∧ (startCycle s).qli.rx = s.qli.rx ∧
    (startCycle s).feed.setpoint = s.feed.setpoint ∧ (startCycle s).feed.staged = s.feed.staged := by
  unfold startCycle; try dsimp only
  repeat' split
  all_goals (repeat' apply And.intro) <;> first | (simp; done) | rfl

@[simp] theorem startSampling_frame (s : State) :
    (startSampling s).pending = s.pending ∧ (startSampling s).running = s.running ∧
    (startSampling s).station = s.station ∧ (startSampling s).seconds = s.seconds ∧
    (startSampling s).base = s.base ∧ (startSampling s).freeIx = s.freeIx ∧ (startSampling s).pins = s.pins ∧
    (startSampling s).cfg = s.cfg ∧ (startSampling s).link = s.link ∧ (startSampling s).conv = s.conv ∧
    (startSampling s).scale = s.scale ∧ (startSampling s).feed = s.feed ∧
    (startSampling s).dust.exposure = s.dust.exposure ∧ (startSampling s).qli = s.qli ∧
    (startSampling s).peers = s.peers ∧ (startSampling s).plan = s.plan ∧ (startSampling s).claim = s.claim ∧
    (startSampling s).travel = s.travel ∧ (startSampling s).spout = s.spout ∧ (startSampling s).cycle = s.cycle ∧
    (startSampling s).bills = s.bills := by
  unfold startSampling; try dsimp only
  repeat' split
  all_goals (repeat' apply And.intro) <;> first | (simp; done) | rfl

@[simp] theorem takeLoad_frame (r : Nat) (s : State) :
    (takeLoad r s).pending = s.pending ∧ (takeLoad r s).running = s.running ∧ (takeLoad r s).station = s.station ∧
    (takeLoad r s).seconds = s.seconds ∧ (takeLoad r s).base = s.base ∧ (takeLoad r s).freeIx = s.freeIx ∧
    (takeLoad r s).pins = s.pins ∧ (takeLoad r s).cfg = s.cfg ∧ (takeLoad r s).link = s.link ∧
    (takeLoad r s).conv = s.conv ∧ (takeLoad r s).scale.total = s.scale.total ∧
    (takeLoad r s).scale.stray = s.scale.stray ∧ (takeLoad r s).scale.closed = s.scale.closed ∧
    (takeLoad r s).scale.openGrams = s.scale.openGrams ∧ (takeLoad r s).scale.pourOpen = s.scale.pourOpen ∧
    (takeLoad r s).scale.saturated = s.scale.saturated ∧ (takeLoad r s).scale.calRunning = s.scale.calRunning ∧
    (takeLoad r s).scale.snapshot = s.scale.snapshot ∧ (takeLoad r s).feed = s.feed ∧ (takeLoad r s).dust = s.dust ∧
    (takeLoad r s).qli = s.qli ∧ (takeLoad r s).peers = s.peers ∧ (takeLoad r s).plan = s.plan ∧
    (takeLoad r s).claim = s.claim ∧ (takeLoad r s).travel = s.travel ∧ (takeLoad r s).spout = s.spout ∧
    (takeLoad r s).cycle = s.cycle ∧ (takeLoad r s).bills = s.bills := by
  unfold takeLoad; try dsimp only
  repeat' split
  all_goals (repeat' apply And.intro) <;> first | (simp; done) | rfl

@[simp] theorem takeReading_frame (k r : Nat) (s : State) :
    (takeReading k r s).pending = s.pending ∧ (takeReading k r s).running = s.running ∧
    (takeReading k r s).station = s.station ∧ (takeReading k r s).seconds = s.seconds ∧
    (takeReading k r s).base = s.base ∧ (takeReading k r s).freeIx = s.freeIx ∧ (takeReading k r s).pins = s.pins ∧
    (takeReading k r s).cfg = s.cfg ∧ (takeReading k r s).link.buf = s.link.buf ∧
    (takeReading k r s).link.miso = s.link.miso ∧ (takeReading k r s).link.enables = s.link.enables ∧
    (takeReading k r s).conv = s.conv ∧ (takeReading k r s).scale = s.scale ∧
    (takeReading k r s).qli.clash = s.qli.clash ∧ (takeReading k r s).peers = s.peers ∧
    (takeReading k r s).plan = s.plan ∧ (takeReading k r s).cycle.auto = s.cycle.auto ∧
    (takeReading k r s).bills.stored = s.bills.stored ∧ (takeReading k r s).bills.totals = s.bills.totals ∧
    (takeReading k r s).bills.seq = s.bills.seq ∧ (takeReading k r s).bills.entries = s.bills.entries ∧
    (takeReading k r s).bills.summary = s.bills.summary ∧ (takeReading k r s).bills.openedAt = s.bills.openedAt ∧
    (takeReading k r s).qli.degraded = s.qli.degraded ∧ (takeReading k r s).qli.winErrors = s.qli.winErrors ∧
    (takeReading k r s).qli.rx = s.qli.rx ∧ (takeReading k r s).feed.setpoint = s.feed.setpoint ∧
    (takeReading k r s).feed.staged = s.feed.staged := by
  unfold takeReading; try dsimp only
  repeat' split
  all_goals (repeat' apply And.intro) <;> first | (simp; done) | rfl

@[simp] theorem beltPulse_frame (s : State) :
    (beltPulse s).pending = s.pending ∧ (beltPulse s).running = s.running ∧ (beltPulse s).station = s.station ∧
    (beltPulse s).seconds = s.seconds ∧ (beltPulse s).base = s.base ∧ (beltPulse s).freeIx = s.freeIx ∧
    (beltPulse s).pins = s.pins ∧ (beltPulse s).cfg = s.cfg ∧ (beltPulse s).link = s.link ∧
    (beltPulse s).conv = s.conv ∧ (beltPulse s).scale.total = s.scale.total ∧
    (beltPulse s).scale.stray = s.scale.stray ∧ (beltPulse s).scale.closed = s.scale.closed ∧
    (beltPulse s).scale.openGrams = s.scale.openGrams ∧ (beltPulse s).scale.pourOpen = s.scale.pourOpen ∧
    (beltPulse s).scale.saturated = s.scale.saturated ∧ (beltPulse s).scale.calRunning = s.scale.calRunning ∧
    (beltPulse s).scale.snapshot = s.scale.snapshot ∧ (beltPulse s).feed = s.feed ∧ (beltPulse s).dust = s.dust ∧
    (beltPulse s).qli = s.qli ∧ (beltPulse s).peers = s.peers ∧ (beltPulse s).plan = s.plan ∧
    (beltPulse s).claim = s.claim ∧ (beltPulse s).travel = s.travel ∧ (beltPulse s).spout = s.spout ∧
    (beltPulse s).cycle = s.cycle ∧ (beltPulse s).bills = s.bills := by
  unfold beltPulse; try dsimp only
  repeat' split
  all_goals (repeat' apply And.intro) <;> first | (simp; done) | rfl

@[simp] theorem acknowledge_frame (c : DustCfg) (s : State) :
    (acknowledge c s).pending = s.pending ∧ (acknowledge c s).running = s.running ∧
    (acknowledge c s).station = s.station ∧ (acknowledge c s).seconds = s.seconds ∧
    (acknowledge c s).base = s.base ∧ (acknowledge c s).freeIx = s.freeIx ∧ (acknowledge c s).pins = s.pins ∧
    (acknowledge c s).cfg = s.cfg ∧ (acknowledge c s).link = s.link ∧ (acknowledge c s).conv = s.conv ∧
    (acknowledge c s).scale = s.scale ∧ (acknowledge c s).feed = s.feed ∧
    (acknowledge c s).dust.exposure = s.dust.exposure ∧ (acknowledge c s).qli = s.qli ∧
    (acknowledge c s).peers = s.peers ∧ (acknowledge c s).plan = s.plan ∧ (acknowledge c s).claim = s.claim ∧
    (acknowledge c s).travel = s.travel ∧ (acknowledge c s).spout = s.spout ∧ (acknowledge c s).cycle = s.cycle ∧
    (acknowledge c s).bills = s.bills := by
  unfold acknowledge; try dsimp only
  repeat' split
  all_goals (repeat' apply And.intro) <;> first | (simp; done) | rfl

@[simp] theorem dropOffLine_frame (s : State) :
    (dropOffLine s).pending = s.pending ∧ (dropOffLine s).running = s.running ∧
    (dropOffLine s).station = s.station ∧ (dropOffLine s).seconds = s.seconds ∧ (dropOffLine s).base = s.base ∧
    (dropOffLine s).freeIx = s.freeIx ∧ (dropOffLine s).pins = s.pins ∧ (dropOffLine s).cfg = s.cfg ∧
    (dropOffLine s).link.buf = s.link.buf ∧ (dropOffLine s).link.miso = s.link.miso ∧
    (dropOffLine s).link.enables = s.link.enables ∧ (dropOffLine s).conv = s.conv ∧
    (dropOffLine s).scale = s.scale ∧ (dropOffLine s).feed = s.feed ∧
    (dropOffLine s).dust.exposure = s.dust.exposure ∧ (dropOffLine s).qli.clash = s.qli.clash ∧
    (dropOffLine s).peers = s.peers ∧ (dropOffLine s).plan = s.plan ∧ (dropOffLine s).travel = s.travel ∧
    (dropOffLine s).spout = s.spout ∧ (dropOffLine s).cycle.auto = s.cycle.auto ∧
    (dropOffLine s).bills.stored = s.bills.stored ∧ (dropOffLine s).bills.totals = s.bills.totals ∧
    (dropOffLine s).bills.seq = s.bills.seq ∧ (dropOffLine s).bills.entries = s.bills.entries ∧
    (dropOffLine s).bills.summary = s.bills.summary ∧ (dropOffLine s).bills.openedAt = s.bills.openedAt ∧
    (dropOffLine s).qli.degraded = s.qli.degraded ∧ (dropOffLine s).qli.winErrors = s.qli.winErrors := by
  unfold dropOffLine; try dsimp only
  repeat' split
  all_goals (repeat' apply And.intro) <;> first | (simp; done) | rfl

@[simp] theorem countForeign_frame (s : State) :
    (countForeign s).pending = s.pending ∧ (countForeign s).running = s.running ∧
    (countForeign s).station = s.station ∧ (countForeign s).seconds = s.seconds ∧ (countForeign s).base = s.base ∧
    (countForeign s).freeIx = s.freeIx ∧ (countForeign s).pins = s.pins ∧ (countForeign s).cfg = s.cfg ∧
    (countForeign s).link = s.link ∧ (countForeign s).conv = s.conv ∧ (countForeign s).scale = s.scale ∧
    (countForeign s).feed = s.feed ∧ (countForeign s).dust = s.dust ∧ (countForeign s).qli.queue = s.qli.queue ∧
    (countForeign s).qli.clash = s.qli.clash ∧ (countForeign s).peers = s.peers ∧ (countForeign s).plan = s.plan ∧
    (countForeign s).claim = s.claim ∧ (countForeign s).travel = s.travel ∧ (countForeign s).spout = s.spout ∧
    (countForeign s).cycle = s.cycle ∧ (countForeign s).bills = s.bills ∧
    (countForeign s).qli.degraded = s.qli.degraded ∧ (countForeign s).qli.winErrors = s.qli.winErrors ∧
    (countForeign s).qli.rx = s.qli.rx := by
  unfold countForeign; try dsimp only
  repeat' split
  all_goals (repeat' apply And.intro) <;> first | (simp; done) | rfl

@[simp] theorem sentNotice_frame (f : Frame) (renewed : Bool) (s : State) :
    (sentNotice f renewed s).pending = s.pending ∧ (sentNotice f renewed s).running = s.running ∧
    (sentNotice f renewed s).station = s.station ∧ (sentNotice f renewed s).seconds = s.seconds ∧
    (sentNotice f renewed s).base = s.base ∧ (sentNotice f renewed s).freeIx = s.freeIx ∧
    (sentNotice f renewed s).pins = s.pins ∧ (sentNotice f renewed s).cfg = s.cfg ∧
    (sentNotice f renewed s).link.buf = s.link.buf ∧ (sentNotice f renewed s).link.miso = s.link.miso ∧
    (sentNotice f renewed s).link.enables = s.link.enables ∧ (sentNotice f renewed s).conv = s.conv ∧
    (sentNotice f renewed s).scale = s.scale ∧ (sentNotice f renewed s).dust.exposure = s.dust.exposure ∧
    (sentNotice f renewed s).qli.clash = s.qli.clash ∧ (sentNotice f renewed s).peers = s.peers ∧
    (sentNotice f renewed s).plan = s.plan ∧ (sentNotice f renewed s).cycle.auto = s.cycle.auto ∧
    (sentNotice f renewed s).bills.stored = s.bills.stored ∧
    (sentNotice f renewed s).bills.totals = s.bills.totals ∧ (sentNotice f renewed s).bills.seq = s.bills.seq ∧
    (sentNotice f renewed s).bills.entries = s.bills.entries ∧
    (sentNotice f renewed s).bills.summary = s.bills.summary ∧
    (sentNotice f renewed s).bills.openedAt = s.bills.openedAt ∧
    (sentNotice f renewed s).qli.degraded = s.qli.degraded ∧
    (sentNotice f renewed s).qli.winErrors = s.qli.winErrors ∧ (sentNotice f renewed s).qli.rx = s.qli.rx ∧
    (sentNotice f renewed s).feed.setpoint = s.feed.setpoint ∧ (sentNotice f renewed s).feed.staged = s.feed.staged := by
  unfold sentNotice; try dsimp only
  repeat' split
  all_goals (repeat' apply And.intro) <;> first | (simp; done) | rfl

@[simp] theorem ownEcho_frame (s : State) :
    (ownEcho s).pending = s.pending ∧ (ownEcho s).running = s.running ∧ (ownEcho s).station = s.station ∧
    (ownEcho s).seconds = s.seconds ∧ (ownEcho s).base = s.base ∧ (ownEcho s).freeIx = s.freeIx ∧
    (ownEcho s).pins = s.pins ∧ (ownEcho s).cfg = s.cfg ∧ (ownEcho s).link.buf = s.link.buf ∧
    (ownEcho s).link.miso = s.link.miso ∧ (ownEcho s).link.enables = s.link.enables ∧ (ownEcho s).conv = s.conv ∧
    (ownEcho s).scale.total = s.scale.total ∧ (ownEcho s).scale.stray = s.scale.stray ∧
    (ownEcho s).scale.closed = s.scale.closed ∧ (ownEcho s).scale.openGrams = s.scale.openGrams ∧
    (ownEcho s).scale.pourOpen = s.scale.pourOpen ∧ (ownEcho s).scale.saturated = s.scale.saturated ∧
    (ownEcho s).scale.calRunning = s.scale.calRunning ∧ (ownEcho s).scale.snapshot = s.scale.snapshot ∧
    (ownEcho s).dust.exposure = s.dust.exposure ∧ (ownEcho s).qli.clash = s.qli.clash ∧
    (ownEcho s).peers = s.peers ∧ (ownEcho s).cycle.auto = s.cycle.auto ∧
    (ownEcho s).bills.stored = s.bills.stored ∧ (ownEcho s).bills.totals = s.bills.totals ∧
    (ownEcho s).bills.seq = s.bills.seq ∧ (ownEcho s).bills.entries = s.bills.entries ∧
    (ownEcho s).bills.summary = s.bills.summary ∧ (ownEcho s).bills.openedAt = s.bills.openedAt ∧
    (ownEcho s).qli.degraded = s.qli.degraded ∧ (ownEcho s).qli.winErrors = s.qli.winErrors ∧
    (ownEcho s).feed.setpoint = s.feed.setpoint ∧ (ownEcho s).feed.staged = s.feed.staged ∧
    (ownEcho s).plan.state = s.plan.state ∧ (ownEcho s).plan.header = s.plan.header ∧
    (ownEcho s).plan.holds = s.plan.holds ∧ (ownEcho s).plan.check = s.plan.check := by
  unfold ownEcho; try dsimp only
  repeat' split
  all_goals (repeat' apply And.intro) <;> first | (simp; done) | rfl

@[simp] theorem peerFrame_frame (b : Nat) (f : Frame) (s : State) :
    (peerFrame b f s).pending = s.pending ∧ (peerFrame b f s).running = s.running ∧
    (peerFrame b f s).station = s.station ∧ (peerFrame b f s).seconds = s.seconds ∧
    (peerFrame b f s).base = s.base ∧ (peerFrame b f s).freeIx = s.freeIx ∧ (peerFrame b f s).pins = s.pins ∧
    (peerFrame b f s).cfg = s.cfg ∧ (peerFrame b f s).link.buf = s.link.buf ∧
    (peerFrame b f s).link.miso = s.link.miso ∧ (peerFrame b f s).link.enables = s.link.enables ∧
    (peerFrame b f s).conv = s.conv ∧ (peerFrame b f s).scale.total = s.scale.total ∧
    (peerFrame b f s).scale.stray = s.scale.stray ∧ (peerFrame b f s).scale.closed = s.scale.closed ∧
    (peerFrame b f s).scale.openGrams = s.scale.openGrams ∧ (peerFrame b f s).scale.pourOpen = s.scale.pourOpen ∧
    (peerFrame b f s).scale.saturated = s.scale.saturated ∧
    (peerFrame b f s).scale.calRunning = s.scale.calRunning ∧ (peerFrame b f s).scale.snapshot = s.scale.snapshot ∧
    (peerFrame b f s).qli.clash = s.qli.clash ∧ (peerFrame b f s).cycle.auto = s.cycle.auto ∧
    (peerFrame b f s).bills.stored = s.bills.stored ∧ (peerFrame b f s).bills.totals = s.bills.totals ∧
    (peerFrame b f s).bills.seq = s.bills.seq ∧ (peerFrame b f s).bills.entries = s.bills.entries ∧
    (peerFrame b f s).bills.summary = s.bills.summary ∧ (peerFrame b f s).bills.openedAt = s.bills.openedAt ∧
    (peerFrame b f s).qli.degraded = s.qli.degraded ∧ (peerFrame b f s).qli.winErrors = s.qli.winErrors ∧
    (peerFrame b f s).qli.rx = s.qli.rx ∧ (peerFrame b f s).feed.setpoint = s.feed.setpoint ∧
    (peerFrame b f s).feed.staged = s.feed.staged ∧ (peerFrame b f s).plan.state = s.plan.state ∧
    (peerFrame b f s).plan.header = s.plan.header ∧ (peerFrame b f s).plan.holds = s.plan.holds ∧
    (peerFrame b f s).plan.check = s.plan.check := by
  unfold peerFrame; try dsimp only
  repeat' split
  all_goals (repeat' apply And.intro) <;> first | (simp; done) | rfl

@[simp] theorem discardPlan_frame (s : State) :
    (discardPlan s).pending = s.pending ∧ (discardPlan s).running = s.running ∧
    (discardPlan s).station = s.station ∧ (discardPlan s).seconds = s.seconds ∧ (discardPlan s).base = s.base ∧
    (discardPlan s).freeIx = s.freeIx ∧ (discardPlan s).pins = s.pins ∧ (discardPlan s).cfg = s.cfg ∧
    (discardPlan s).link = s.link ∧ (discardPlan s).conv = s.conv ∧ (discardPlan s).scale = s.scale ∧
    (discardPlan s).feed = s.feed ∧ (discardPlan s).dust = s.dust ∧ (discardPlan s).qli = s.qli ∧
    (discardPlan s).peers = s.peers ∧ (discardPlan s).claim = s.claim ∧ (discardPlan s).travel = s.travel ∧
    (discardPlan s).spout = s.spout ∧ (discardPlan s).cycle = s.cycle ∧
    (discardPlan s).bills.stored = s.bills.stored ∧ (discardPlan s).bills.seq = s.bills.seq ∧
    (discardPlan s).bills.summary = s.bills.summary ∧ (discardPlan s).bills.openedAt = s.bills.openedAt := by
  unfold discardPlan; try dsimp only
  repeat' split
  all_goals (repeat' apply And.intro) <;> first | (simp; done) | rfl

@[simp] theorem startHoming_frame (s : State) :
    (startHoming s).pending = s.pending ∧ (startHoming s).running = s.running ∧
    (startHoming s).station = s.station ∧ (startHoming s).seconds = s.seconds ∧ (startHoming s).base = s.base ∧
    (startHoming s).freeIx = s.freeIx ∧ (startHoming s).pins = s.pins ∧ (startHoming s).cfg = s.cfg ∧
    (startHoming s).link.buf = s.link.buf ∧ (startHoming s).link.miso = s.link.miso ∧
    (startHoming s).link.enables = s.link.enables ∧ (startHoming s).conv = s.conv ∧
    (startHoming s).scale = s.scale ∧ (startHoming s).feed = s.feed ∧
    (startHoming s).dust.exposure = s.dust.exposure ∧ (startHoming s).qli.clash = s.qli.clash ∧
    (startHoming s).peers = s.peers ∧ (startHoming s).plan = s.plan ∧ (startHoming s).spout = s.spout ∧
    (startHoming s).cycle.auto = s.cycle.auto ∧ (startHoming s).bills.stored = s.bills.stored ∧
    (startHoming s).bills.totals = s.bills.totals ∧ (startHoming s).bills.seq = s.bills.seq ∧
    (startHoming s).bills.entries = s.bills.entries ∧ (startHoming s).bills.summary = s.bills.summary ∧
    (startHoming s).bills.openedAt = s.bills.openedAt ∧ (startHoming s).qli.degraded = s.qli.degraded ∧
    (startHoming s).qli.winErrors = s.qli.winErrors ∧ (startHoming s).qli.rx = s.qli.rx := by
  unfold startHoming; try dsimp only
  repeat' split
  all_goals (repeat' apply And.intro) <;> first | (simp; done) | rfl

@[simp] theorem turnDrive_frame (target : Nat) (s : State) :
    (turnDrive target s).pending = s.pending ∧ (turnDrive target s).running = s.running ∧
    (turnDrive target s).station = s.station ∧ (turnDrive target s).seconds = s.seconds ∧
    (turnDrive target s).base = s.base ∧ (turnDrive target s).freeIx = s.freeIx ∧
    (turnDrive target s).pins = s.pins ∧ (turnDrive target s).cfg = s.cfg ∧
    (turnDrive target s).link.buf = s.link.buf ∧ (turnDrive target s).link.miso = s.link.miso ∧
    (turnDrive target s).link.enables = s.link.enables ∧ (turnDrive target s).conv = s.conv ∧
    (turnDrive target s).scale = s.scale ∧ (turnDrive target s).feed = s.feed ∧
    (turnDrive target s).dust.exposure = s.dust.exposure ∧ (turnDrive target s).qli.clash = s.qli.clash ∧
    (turnDrive target s).peers = s.peers ∧ (turnDrive target s).plan = s.plan ∧
    (turnDrive target s).spout = s.spout ∧ (turnDrive target s).cycle.auto = s.cycle.auto ∧
    (turnDrive target s).bills.stored = s.bills.stored ∧ (turnDrive target s).bills.totals = s.bills.totals ∧
    (turnDrive target s).bills.seq = s.bills.seq ∧ (turnDrive target s).bills.entries = s.bills.entries ∧
    (turnDrive target s).bills.summary = s.bills.summary ∧ (turnDrive target s).bills.openedAt = s.bills.openedAt ∧
    (turnDrive target s).qli.degraded = s.qli.degraded ∧ (turnDrive target s).qli.winErrors = s.qli.winErrors ∧
    (turnDrive target s).qli.rx = s.qli.rx := by
  unfold turnDrive; try dsimp only
  repeat' split
  all_goals (repeat' apply And.intro) <;> first | (simp; done) | rfl

@[simp] theorem retarget_frame (centre : Nat) (s : State) :
    (retarget centre s).pending = s.pending ∧ (retarget centre s).running = s.running ∧
    (retarget centre s).station = s.station ∧ (retarget centre s).seconds = s.seconds ∧
    (retarget centre s).base = s.base ∧ (retarget centre s).freeIx = s.freeIx ∧ (retarget centre s).pins = s.pins ∧
    (retarget centre s).cfg = s.cfg ∧ (retarget centre s).link.buf = s.link.buf ∧
    (retarget centre s).link.miso = s.link.miso ∧ (retarget centre s).link.enables = s.link.enables ∧
    (retarget centre s).conv = s.conv ∧ (retarget centre s).scale = s.scale ∧ (retarget centre s).feed = s.feed ∧
    (retarget centre s).dust.exposure = s.dust.exposure ∧ (retarget centre s).qli.clash = s.qli.clash ∧
    (retarget centre s).peers = s.peers ∧ (retarget centre s).plan = s.plan ∧ (retarget centre s).spout = s.spout ∧
    (retarget centre s).cycle.auto = s.cycle.auto ∧ (retarget centre s).bills.stored = s.bills.stored ∧
    (retarget centre s).bills.totals = s.bills.totals ∧ (retarget centre s).bills.seq = s.bills.seq ∧
    (retarget centre s).bills.entries = s.bills.entries ∧ (retarget centre s).bills.summary = s.bills.summary ∧
    (retarget centre s).bills.openedAt = s.bills.openedAt ∧ (retarget centre s).qli.degraded = s.qli.degraded ∧
    (retarget centre s).qli.winErrors = s.qli.winErrors ∧ (retarget centre s).qli.rx = s.qli.rx := by
  unfold retarget; try dsimp only
  repeat' split
  all_goals (repeat' apply And.intro) <;> first | (simp; done) | rfl

@[simp] theorem shiftMove_frame (s : State) :
    (shiftMove s).pending = s.pending ∧ (shiftMove s).running = s.running ∧ (shiftMove s).station = s.station ∧
    (shiftMove s).seconds = s.seconds ∧ (shiftMove s).base = s.base ∧ (shiftMove s).freeIx = s.freeIx ∧
    (shiftMove s).pins = s.pins ∧ (shiftMove s).cfg = s.cfg ∧ (shiftMove s).link.buf = s.link.buf ∧
    (shiftMove s).link.miso = s.link.miso ∧ (shiftMove s).link.enables = s.link.enables ∧
    (shiftMove s).conv = s.conv ∧ (shiftMove s).scale = s.scale ∧ (shiftMove s).dust.exposure = s.dust.exposure ∧
    (shiftMove s).qli.clash = s.qli.clash ∧ (shiftMove s).peers = s.peers ∧ (shiftMove s).plan = s.plan ∧
    (shiftMove s).cycle.auto = s.cycle.auto ∧ (shiftMove s).bills.stored = s.bills.stored ∧
    (shiftMove s).bills.totals = s.bills.totals ∧ (shiftMove s).bills.seq = s.bills.seq ∧
    (shiftMove s).bills.entries = s.bills.entries ∧ (shiftMove s).bills.summary = s.bills.summary ∧
    (shiftMove s).bills.openedAt = s.bills.openedAt ∧ (shiftMove s).qli.degraded = s.qli.degraded ∧
    (shiftMove s).qli.winErrors = s.qli.winErrors ∧ (shiftMove s).qli.rx = s.qli.rx ∧
    (shiftMove s).feed.setpoint = s.feed.setpoint ∧ (shiftMove s).feed.staged = s.feed.staged := by
  unfold shiftMove; try dsimp only
  repeat' split
  all_goals (repeat' apply And.intro) <;> first | (simp; done) | rfl

@[simp] theorem takeReference_frame (v : Nat) (s : State) :
    (takeReference v s).pending = s.pending ∧ (takeReference v s).running = s.running ∧
    (takeReference v s).station = s.station ∧ (takeReference v s).seconds = s.seconds ∧
    (takeReference v s).base = s.base ∧ (takeReference v s).freeIx = s.freeIx ∧ (takeReference v s).pins = s.pins ∧
    (takeReference v s).cfg = s.cfg ∧ (takeReference v s).link = s.link ∧ (takeReference v s).conv = s.conv ∧
    (takeReference v s).scale = s.scale ∧ (takeReference v s).feed = s.feed ∧ (takeReference v s).dust = s.dust ∧
    (takeReference v s).qli = s.qli ∧ (takeReference v s).peers = s.peers ∧ (takeReference v s).claim = s.claim ∧
    (takeReference v s).travel = s.travel ∧ (takeReference v s).spout = s.spout ∧
    (takeReference v s).cycle = s.cycle ∧ (takeReference v s).bills = s.bills ∧
    (takeReference v s).plan.state = s.plan.state ∧ (takeReference v s).plan.holds = s.plan.holds ∧
    (takeReference v s).plan.check = s.plan.check := by
  unfold takeReference; try dsimp only
  repeat' split
  all_goals (repeat' apply And.intro) <;> first | (simp; done) | rfl

@[simp] theorem countEdge_frame (count : Nat) (s : State) :
    (countEdge count s).pending = s.pending ∧ (countEdge count s).running = s.running ∧
    (countEdge count s).station = s.station ∧ (countEdge count s).seconds = s.seconds ∧
    (countEdge count s).base = s.base ∧ (countEdge count s).freeIx = s.freeIx ∧ (countEdge count s).pins = s.pins ∧
    (countEdge count s).cfg = s.cfg ∧ (countEdge count s).link = s.link ∧ (countEdge count s).conv = s.conv ∧
    (countEdge count s).scale = s.scale ∧ (countEdge count s).feed = s.feed ∧ (countEdge count s).dust = s.dust ∧
    (countEdge count s).qli = s.qli ∧ (countEdge count s).peers = s.peers ∧ (countEdge count s).plan = s.plan ∧
    (countEdge count s).claim = s.claim ∧ (countEdge count s).spout = s.spout ∧
    (countEdge count s).cycle = s.cycle ∧ (countEdge count s).bills = s.bills ∧
    (countEdge count s).travel.referenced = s.travel.referenced := by
  unfold countEdge; try dsimp only
  repeat' split
  all_goals (repeat' apply And.intro) <;> first | (simp; done) | rfl

@[simp] theorem atMarker_frame (s : State) :
    (atMarker s).pending = s.pending ∧ (atMarker s).running = s.running ∧ (atMarker s).station = s.station ∧
    (atMarker s).seconds = s.seconds ∧ (atMarker s).base = s.base ∧ (atMarker s).freeIx = s.freeIx ∧
    (atMarker s).pins = s.pins ∧ (atMarker s).cfg = s.cfg ∧ (atMarker s).link = s.link ∧
    (atMarker s).conv = s.conv ∧ (atMarker s).scale = s.scale ∧ (atMarker s).feed = s.feed ∧
    (atMarker s).dust = s.dust ∧ (atMarker s).qli = s.qli ∧ (atMarker s).peers = s.peers ∧
    (atMarker s).plan = s.plan ∧ (atMarker s).claim = s.claim ∧ (atMarker s).spout = s.spout ∧
    (atMarker s).cycle = s.cycle ∧ (atMarker s).bills = s.bills := by
  unfold atMarker; try dsimp only
  repeat' split
  all_goals (repeat' apply And.intro) <;> first | (simp; done) | rfl

@[simp] theorem markerTravel_frame (before s : State) :
    (markerTravel before s).pending = s.pending ∧ (markerTravel before s).running = s.running ∧
    (markerTravel before s).station = s.station ∧ (markerTravel before s).seconds = s.seconds ∧
    (markerTravel before s).base = s.base ∧ (markerTravel before s).freeIx = s.freeIx ∧
    (markerTravel before s).pins = s.pins ∧ (markerTravel before s).cfg = s.cfg ∧
    (markerTravel before s).link.buf = s.link.buf ∧ (markerTravel before s).link.miso = s.link.miso ∧
    (markerTravel before s).link.enables = s.link.enables ∧ (markerTravel before s).conv = s.conv ∧
    (markerTravel before s).scale = s.scale ∧ (markerTravel before s).feed = s.feed ∧
    (markerTravel before s).dust.exposure = s.dust.exposure ∧ (markerTravel before s).qli.clash = s.qli.clash ∧
    (markerTravel before s).peers = s.peers ∧ (markerTravel before s).plan = s.plan ∧
    (markerTravel before s).spout = s.spout ∧ (markerTravel before s).cycle.auto = s.cycle.auto ∧
    (markerTravel before s).bills.stored = s.bills.stored ∧ (markerTravel before s).bills.totals = s.bills.totals ∧
    (markerTravel before s).bills.seq = s.bills.seq ∧ (markerTravel before s).bills.entries = s.bills.entries ∧
    (markerTravel before s).bills.summary = s.bills.summary ∧
    (markerTravel before s).bills.openedAt = s.bills.openedAt ∧
    (markerTravel before s).qli.degraded = s.qli.degraded ∧
    (markerTravel before s).qli.winErrors = s.qli.winErrors ∧ (markerTravel before s).qli.rx = s.qli.rx := by
  unfold markerTravel; try dsimp only
  repeat' split
  all_goals (repeat' apply And.intro) <;> first | (simp; done) | rfl

@[simp] theorem markerEdge_frame (s : State) :
    (markerEdge s).pending = s.pending ∧ (markerEdge s).running = s.running ∧ (markerEdge s).station = s.station ∧
    (markerEdge s).seconds = s.seconds ∧ (markerEdge s).base = s.base ∧ (markerEdge s).freeIx = s.freeIx ∧
    (markerEdge s).pins = s.pins ∧ (markerEdge s).cfg = s.cfg ∧ (markerEdge s).link.buf = s.link.buf ∧
    (markerEdge s).link.miso = s.link.miso ∧ (markerEdge s).link.enables = s.link.enables ∧
    (markerEdge s).conv = s.conv ∧ (markerEdge s).scale.total = s.scale.total ∧
    (markerEdge s).scale.stray = s.scale.stray ∧ (markerEdge s).scale.closed = s.scale.closed ∧
    (markerEdge s).scale.openGrams = s.scale.openGrams ∧ (markerEdge s).scale.pourOpen = s.scale.pourOpen ∧
    (markerEdge s).scale.saturated = s.scale.saturated ∧ (markerEdge s).scale.calRunning = s.scale.calRunning ∧
    (markerEdge s).scale.snapshot = s.scale.snapshot ∧ (markerEdge s).qli.clash = s.qli.clash ∧
    (markerEdge s).plan = s.plan ∧ (markerEdge s).cycle.auto = s.cycle.auto ∧
    (markerEdge s).bills.stored = s.bills.stored ∧ (markerEdge s).bills.totals = s.bills.totals ∧
    (markerEdge s).bills.seq = s.bills.seq ∧ (markerEdge s).bills.entries = s.bills.entries ∧
    (markerEdge s).bills.summary = s.bills.summary ∧ (markerEdge s).bills.openedAt = s.bills.openedAt ∧
    (markerEdge s).qli.degraded = s.qli.degraded ∧ (markerEdge s).qli.winErrors = s.qli.winErrors ∧
    (markerEdge s).qli.rx = s.qli.rx ∧ (markerEdge s).feed.setpoint = s.feed.setpoint ∧
    (markerEdge s).feed.staged = s.feed.staged := by
  unfold markerEdge; try dsimp only
  repeat' split
  all_goals (repeat' apply And.intro) <;> first | (simp; done) | rfl

@[simp] theorem jamSpout_frame (j : JamCause) (s : State) :
    (jamSpout j s).pending = s.pending ∧ (jamSpout j s).running = s.running ∧ (jamSpout j s).station = s.station ∧
    (jamSpout j s).seconds = s.seconds ∧ (jamSpout j s).base = s.base ∧ (jamSpout j s).freeIx = s.freeIx ∧
    (jamSpout j s).pins = s.pins ∧ (jamSpout j s).cfg = s.cfg ∧ (jamSpout j s).link.buf = s.link.buf ∧
    (jamSpout j s).link.miso = s.link.miso ∧ (jamSpout j s).link.enables = s.link.enables ∧
    (jamSpout j s).conv = s.conv ∧ (jamSpout j s).scale = s.scale ∧ (jamSpout j s).dust.exposure = s.dust.exposure ∧
    (jamSpout j s).qli.clash = s.qli.clash ∧ (jamSpout j s).peers = s.peers ∧ (jamSpout j s).plan = s.plan ∧
    (jamSpout j s).cycle.auto = s.cycle.auto ∧ (jamSpout j s).bills.stored = s.bills.stored ∧
    (jamSpout j s).bills.totals = s.bills.totals ∧ (jamSpout j s).bills.seq = s.bills.seq ∧
    (jamSpout j s).bills.entries = s.bills.entries ∧ (jamSpout j s).bills.summary = s.bills.summary ∧
    (jamSpout j s).bills.openedAt = s.bills.openedAt ∧ (jamSpout j s).qli.degraded = s.qli.degraded ∧
    (jamSpout j s).qli.winErrors = s.qli.winErrors ∧ (jamSpout j s).qli.rx = s.qli.rx ∧
    (jamSpout j s).feed.setpoint = s.feed.setpoint ∧ (jamSpout j s).feed.staged = s.feed.staged := by
  unfold jamSpout; try dsimp only
  repeat' split
  all_goals (repeat' apply And.intro) <;> first | (simp; done) | rfl

@[simp] theorem spoutReaches_frame (st : SpoutState) (s : State) :
    (spoutReaches st s).pending = s.pending ∧ (spoutReaches st s).running = s.running ∧
    (spoutReaches st s).station = s.station ∧ (spoutReaches st s).seconds = s.seconds ∧
    (spoutReaches st s).base = s.base ∧ (spoutReaches st s).freeIx = s.freeIx ∧ (spoutReaches st s).pins = s.pins ∧
    (spoutReaches st s).cfg = s.cfg ∧ (spoutReaches st s).link.buf = s.link.buf ∧
    (spoutReaches st s).link.miso = s.link.miso ∧ (spoutReaches st s).link.enables = s.link.enables ∧
    (spoutReaches st s).conv = s.conv ∧ (spoutReaches st s).scale.total = s.scale.total ∧
    (spoutReaches st s).scale.stray = s.scale.stray ∧ (spoutReaches st s).scale.closed = s.scale.closed ∧
    (spoutReaches st s).scale.openGrams = s.scale.openGrams ∧
    (spoutReaches st s).scale.pourOpen = s.scale.pourOpen ∧
    (spoutReaches st s).scale.saturated = s.scale.saturated ∧
    (spoutReaches st s).scale.calRunning = s.scale.calRunning ∧
    (spoutReaches st s).scale.snapshot = s.scale.snapshot ∧ (spoutReaches st s).dust.exposure = s.dust.exposure ∧
    (spoutReaches st s).qli.clash = s.qli.clash ∧ (spoutReaches st s).peers = s.peers ∧
    (spoutReaches st s).plan = s.plan ∧ (spoutReaches st s).cycle.auto = s.cycle.auto ∧
    (spoutReaches st s).bills.stored = s.bills.stored ∧ (spoutReaches st s).bills.totals = s.bills.totals ∧
    (spoutReaches st s).bills.seq = s.bills.seq ∧ (spoutReaches st s).bills.entries = s.bills.entries ∧
    (spoutReaches st s).bills.summary = s.bills.summary ∧ (spoutReaches st s).bills.openedAt = s.bills.openedAt ∧
    (spoutReaches st s).qli.degraded = s.qli.degraded ∧ (spoutReaches st s).qli.winErrors = s.qli.winErrors ∧
    (spoutReaches st s).qli.rx = s.qli.rx ∧ (spoutReaches st s).feed.setpoint = s.feed.setpoint ∧
    (spoutReaches st s).feed.staged = s.feed.staged := by
  unfold spoutReaches; try dsimp only
  repeat' split
  all_goals (repeat' apply And.intro) <;> first | (simp; done) | rfl

@[simp] theorem limitChange_frame (l : Limit) (active : Bool) (s : State) :
    (limitChange l active s).pending = s.pending ∧ (limitChange l active s).running = s.running ∧
    (limitChange l active s).station = s.station ∧ (limitChange l active s).seconds = s.seconds ∧
    (limitChange l active s).base = s.base ∧ (limitChange l active s).freeIx = s.freeIx ∧
    (limitChange l active s).pins = s.pins ∧ (limitChange l active s).cfg = s.cfg ∧
    (limitChange l active s).link.buf = s.link.buf ∧ (limitChange l active s).link.miso = s.link.miso ∧
    (limitChange l active s).link.enables = s.link.enables ∧ (limitChange l active s).conv = s.conv ∧
    (limitChange l active s).scale.total = s.scale.total ∧ (limitChange l active s).scale.stray = s.scale.stray ∧
    (limitChange l active s).scale.closed = s.scale.closed ∧
    (limitChange l active s).scale.openGrams = s.scale.openGrams ∧
    (limitChange l active s).scale.pourOpen = s.scale.pourOpen ∧
    (limitChange l active s).scale.saturated = s.scale.saturated ∧
    (limitChange l active s).scale.calRunning = s.scale.calRunning ∧
    (limitChange l active s).scale.snapshot = s.scale.snapshot ∧
    (limitChange l active s).dust.exposure = s.dust.exposure ∧ (limitChange l active s).qli.clash = s.qli.clash ∧
    (limitChange l active s).peers = s.peers ∧ (limitChange l active s).plan = s.plan ∧
    (limitChange l active s).cycle.auto = s.cycle.auto ∧ (limitChange l active s).bills.stored = s.bills.stored ∧
    (limitChange l active s).bills.totals = s.bills.totals ∧ (limitChange l active s).bills.seq = s.bills.seq ∧
    (limitChange l active s).bills.entries = s.bills.entries ∧
    (limitChange l active s).bills.summary = s.bills.summary ∧
    (limitChange l active s).bills.openedAt = s.bills.openedAt ∧
    (limitChange l active s).qli.degraded = s.qli.degraded ∧
    (limitChange l active s).qli.winErrors = s.qli.winErrors ∧ (limitChange l active s).qli.rx = s.qli.rx ∧
    (limitChange l active s).feed.setpoint = s.feed.setpoint ∧ (limitChange l active s).feed.staged = s.feed.staged := by
  unfold limitChange; try dsimp only
  repeat' split
  all_goals (repeat' apply And.intro) <;> first | (simp; done) | rfl

@[simp] theorem settleExpires_frame (s : State) :
    (settleExpires s).pending = s.pending ∧ (settleExpires s).running = s.running ∧
    (settleExpires s).station = s.station ∧ (settleExpires s).seconds = s.seconds ∧
    (settleExpires s).base = s.base ∧ (settleExpires s).freeIx = s.freeIx ∧ (settleExpires s).pins = s.pins ∧
    (settleExpires s).cfg = s.cfg ∧ (settleExpires s).link.buf = s.link.buf ∧
    (settleExpires s).link.miso = s.link.miso ∧ (settleExpires s).link.enables = s.link.enables ∧
    (settleExpires s).conv = s.conv ∧ (settleExpires s).scale.total = s.scale.total ∧
    (settleExpires s).scale.stray = s.scale.stray ∧ (settleExpires s).scale.closed = s.scale.closed ∧
    (settleExpires s).scale.openGrams = s.scale.openGrams ∧ (settleExpires s).scale.pourOpen = s.scale.pourOpen ∧
    (settleExpires s).scale.saturated = s.scale.saturated ∧
    (settleExpires s).scale.calRunning = s.scale.calRunning ∧ (settleExpires s).scale.snapshot = s.scale.snapshot ∧
    (settleExpires s).feed = s.feed ∧ (settleExpires s).dust.exposure = s.dust.exposure ∧
    (settleExpires s).qli.clash = s.qli.clash ∧ (settleExpires s).peers = s.peers ∧
    (settleExpires s).plan = s.plan ∧ (settleExpires s).cycle.auto = s.cycle.auto ∧
    (settleExpires s).bills.stored = s.bills.stored ∧ (settleExpires s).bills.totals = s.bills.totals ∧
    (settleExpires s).bills.seq = s.bills.seq ∧ (settleExpires s).bills.entries = s.bills.entries ∧
    (settleExpires s).bills.summary = s.bills.summary ∧ (settleExpires s).bills.openedAt = s.bills.openedAt ∧
    (settleExpires s).qli.degraded = s.qli.degraded ∧ (settleExpires s).qli.winErrors = s.qli.winErrors ∧
    (settleExpires s).qli.rx = s.qli.rx := by
  unfold settleExpires; try dsimp only
  repeat' split
  all_goals (repeat' apply And.intro) <;> first | (simp; done) | rfl

end Sys2Proof.Machine
end

