-- ==== Sys2Proof/Laws/Flags.lean ====
section
/-! SUPPORT. No shared operation clears an event flag (R194: a flag stays set until CLEAR EVENTS). The lemmas are stated of one bit
of the flag register, and rewrite by simp once the flag is known to be set before. -/

namespace Sys2Proof.Machine

/-- R194: raising an event sets its flag. -/
@[simp] theorem raise_sets_flag (e : Event) (s : State) : (raise e s).link.flags.getLsbD e.bit = true := by
  cases e <;> simp [raise, Event.mask, Event.bit]

/-- R194: raising an event leaves every flag set that was. -/
@[simp] theorem raise_flags_stay (e : Event) (s : State) (n : Nat) (h : s.link.flags.getLsbD n = true) :
    (raise e s).link.flags.getLsbD n = true := by
  simp [raise, h]

/-- R194: raising an event sets its flag and no other. -/
theorem raise_flag (e f : Event) (s : State) :
    (raise f s).link.flags.getLsbD e.bit = (s.link.flags.getLsbD e.bit || decide (e = f)) := by
  cases e <;> cases f <;> simp [raise, Event.mask, Event.bit]

/-- R194: an event raised on a condition sets its flag and no other. -/
theorem raiseIf_flag (e f : Event) (c : Bool) (s : State) :
    (raiseIf c f s).link.flags.getLsbD e.bit = (s.link.flags.getLsbD e.bit || (c && decide (e = f))) := by
  cases c <;> simp [raiseIf, raise_flag]

@[simp] theorem raiseIf_flags_stay (c : Bool) (e : Event) (s : State) (n : Nat)
    (h : s.link.flags.getLsbD n = true) :
    (raiseIf c e s).link.flags.getLsbD n = true := by
  unfold raiseIf; try dsimp only
  repeat' split
  all_goals first | exact h | (simp (maxDischargeDepth := 9) [h]; done) | simp_all

@[simp] theorem reserveSlot_flags_stay (s : State) (n : Nat) (h : s.link.flags.getLsbD n = true) :
    (reserveSlot s).link.flags.getLsbD n = true := by
  unfold reserveSlot; try dsimp only
  repeat' split
  all_goals first | exact h | (simp (maxDischargeDepth := 9) [h]; done) | simp_all

@[simp] theorem processReading_flags_stay (c : DustCfg) (k r : Nat) (s : State) (n : Nat)
    (h : s.link.flags.getLsbD n = true) :
    (processReading c k r s).link.flags.getLsbD n = true := by
  unfold processReading; try dsimp only
  repeat' split
  all_goals first | exact h | (simp (maxDischargeDepth := 9) [h]; done) | simp_all

@[simp] theorem claimLost_flags_stay (s : State) (n : Nat) (h : s.link.flags.getLsbD n = true) :
    (claimLost s).link.flags.getLsbD n = true := by
  unfold claimLost; try dsimp only
  repeat' split
  all_goals first | exact h | (simp (maxDischargeDepth := 9) [h]; done) | simp_all

@[simp] theorem dropNotice_flags_stay (f : Frame) (s : State) (n : Nat)
    (h : s.link.flags.getLsbD n = true) :
    (dropNotice f s).link.flags.getLsbD n = true := by
  unfold dropNotice; try dsimp only
  repeat' split
  all_goals first | exact h | (simp (maxDischargeDepth := 9) [h]; done) | simp_all

@[simp] theorem enqueue_flags_stay (f : Frame) (s : State) (n : Nat) (h : s.link.flags.getLsbD n = true) :
    (enqueue f s).link.flags.getLsbD n = true := by
  unfold enqueue tellDrop; try dsimp only
  repeat' split
  all_goals first | exact h | (simp (maxDischargeDepth := 9) [h]; done) | simp_all

@[simp] theorem withdrawClaim_flags_stay (s : State) (n : Nat) (h : s.link.flags.getLsbD n = true) :
    (withdrawClaim s).link.flags.getLsbD n = true := by
  unfold withdrawClaim; try dsimp only
  repeat' split
  all_goals first | exact h | (simp (maxDischargeDepth := 9) [h]; done) | simp_all

@[simp] theorem sendDust_flags_stay (s : State) (n : Nat) (h : s.link.flags.getLsbD n = true) :
    (sendDust s).link.flags.getLsbD n = true := by
  unfold sendDust; try dsimp only
  repeat' split
  all_goals first | exact h | (simp (maxDischargeDepth := 9) [h]; done) | simp_all

@[simp] theorem announceDust_flags_stay (level : DustLevel) (trips : Nat) (s : State) (n : Nat)
    (h : s.link.flags.getLsbD n = true) :
    (announceDust level trips s).link.flags.getLsbD n = true := by
  unfold announceDust; try dsimp only
  repeat' split
  all_goals first | exact h | (simp (maxDischargeDepth := 9) [h]; done) | simp_all

@[simp] theorem handSpan_flags_stay (s : State) (n : Nat) (h : s.link.flags.getLsbD n = true) :
    (handSpan s).link.flags.getLsbD n = true := by
  unfold handSpan; try dsimp only
  repeat' split
  all_goals first | exact h | (simp (maxDischargeDepth := 9) [h]; done) | simp_all

@[simp] theorem handSpanIfChanged_flags_stay (before : Option Stretch) (s : State) (n : Nat)
    (h : s.link.flags.getLsbD n = true) :
    (handSpanIfChanged before s).link.flags.getLsbD n = true := by
  unfold handSpanIfChanged; try dsimp only
  repeat' split
  all_goals first | exact h | (simp (maxDischargeDepth := 9) [h]; done) | simp_all

@[simp] theorem faultTravel_flags_stay (c : TravelFault) (s : State) (n : Nat)
    (h : s.link.flags.getLsbD n = true) :
    (faultTravel c s).link.flags.getLsbD n = true := by
  unfold faultTravel; try dsimp only
  repeat' split
  all_goals first | exact h | (simp (maxDischargeDepth := 9) [h]; done) | simp_all

@[simp] theorem proxTest_flags_stay (s : State) (n : Nat) (h : s.link.flags.getLsbD n = true) :
    (proxTest s).link.flags.getLsbD n = true := by
  unfold proxTest; try dsimp only
  repeat' split
  all_goals first | exact h | (simp (maxDischargeDepth := 9) [h]; done) | simp_all

@[simp] theorem startDrive_flags_stay (target : Nat) (s : State) (n : Nat)
    (h : s.link.flags.getLsbD n = true) :
    (startDrive target s).link.flags.getLsbD n = true := by
  unfold startDrive; try dsimp only
  repeat' split
  all_goals first | exact h | (simp (maxDischargeDepth := 9) [h]; done) | simp_all

@[simp] theorem reservationCheck_flags_stay (target : Nat) (s : State) (n : Nat)
    (h : s.link.flags.getLsbD n = true) :
    (reservationCheck target s).link.flags.getLsbD n = true := by
  unfold reservationCheck; try dsimp only
  repeat' split
  all_goals first | exact h | (simp (maxDischargeDepth := 9) [h]; done) | simp_all

@[simp] theorem yieldRail_flags_stay (s : State) (n : Nat) (h : s.link.flags.getLsbD n = true) :
    (yieldRail s).link.flags.getLsbD n = true := by
  unfold yieldRail; try dsimp only
  repeat' split
  all_goals first | exact h | (simp (maxDischargeDepth := 9) [h]; done) | simp_all

@[simp] theorem requestMove_flags_stay (hold : Nat) (s : State) (n : Nat)
    (h : s.link.flags.getLsbD n = true) :
    (requestMove hold s).1.link.flags.getLsbD n = true := by
  unfold requestMove; try dsimp only
  repeat' split
  all_goals first | exact h | (simp (maxDischargeDepth := 9) [h]; done) | simp_all

@[simp] theorem stopTravel_flags_stay (s : State) (n : Nat) (h : s.link.flags.getLsbD n = true) :
    (stopTravel s).link.flags.getLsbD n = true := by
  unfold stopTravel; try dsimp only
  repeat' split
  all_goals first | exact h | (simp (maxDischargeDepth := 9) [h]; done) | simp_all

@[simp] theorem overshoot_flags_stay (s : State) (n : Nat) (h : s.link.flags.getLsbD n = true) :
    (overshoot s).link.flags.getLsbD n = true := by
  unfold overshoot; try dsimp only
  repeat' split
  all_goals first | exact h | (simp (maxDischargeDepth := 9) [h]; done) | simp_all

@[simp] theorem travelTests_flags_stay (s : State) (n : Nat) (h : s.link.flags.getLsbD n = true) :
    (travelTests s).link.flags.getLsbD n = true := by
  unfold travelTests; try dsimp only
  repeat' split
  all_goals first | exact h | (simp (maxDischargeDepth := 9) [h]; done) | simp_all

@[simp] theorem positionMoved_flags_stay (before : Option Stretch) (s : State) (n : Nat)
    (h : s.link.flags.getLsbD n = true) :
    (positionMoved before s).link.flags.getLsbD n = true := by
  unfold positionMoved; try dsimp only
  repeat' split
  all_goals first | exact h | (simp (maxDischargeDepth := 9) [h]; done) | simp_all

@[simp] theorem moveSpanSent_flags_stay (s : State) (n : Nat) (h : s.link.flags.getLsbD n = true) :
    (moveSpanSent s).link.flags.getLsbD n = true := by
  unfold moveSpanSent; try dsimp only
  repeat' split
  all_goals first | exact h | (simp (maxDischargeDepth := 9) [h]; done) | simp_all

@[simp] theorem arrive_flags_stay (s : State) (n : Nat) (h : s.link.flags.getLsbD n = true) :
    (arrive s).link.flags.getLsbD n = true := by
  unfold arrive; try dsimp only
  repeat' split
  all_goals first | exact h | (simp (maxDischargeDepth := 9) [h]; done) | simp_all

@[simp] theorem endHold_flags_stay (s : State) (n : Nat) (h : s.link.flags.getLsbD n = true) :
    (endHold s).link.flags.getLsbD n = true := by
  unfold endHold; try dsimp only
  repeat' split
  all_goals first | exact h | (simp (maxDischargeDepth := 9) [h]; done) | simp_all

@[simp] theorem lateConflict_flags_stay (s : State) (n : Nat) (h : s.link.flags.getLsbD n = true) :
    (lateConflict s).link.flags.getLsbD n = true := by
  unfold lateConflict; try dsimp only
  repeat' split
  all_goals first | exact h | (simp (maxDischargeDepth := 9) [h]; done) | simp_all

@[simp] theorem onBlocking_flags_stay (s : State) (n : Nat) (h : s.link.flags.getLsbD n = true) :
    (onBlocking s).link.flags.getLsbD n = true := by
  unfold onBlocking; try dsimp only
  repeat' split
  all_goals first | exact h | (simp (maxDischargeDepth := 9) [h]; done) | simp_all

@[simp] theorem recheckWaiting_flags_stay (s : State) (n : Nat) (h : s.link.flags.getLsbD n = true) :
    (recheckWaiting s).link.flags.getLsbD n = true := by
  unfold recheckWaiting; try dsimp only
  repeat' split
  all_goals first | exact h | (simp (maxDischargeDepth := 9) [h]; done) | simp_all

@[simp] theorem atRest_flags_stay (s : State) (n : Nat) (h : s.link.flags.getLsbD n = true) :
    (atRest s).1.link.flags.getLsbD n = true := by
  unfold atRest; try dsimp only
  repeat' split
  all_goals first | exact h | (simp (maxDischargeDepth := 9) [h]; done) | simp_all

@[simp] theorem handClose_flags_stay (r : ClaimRec) (f : Frame) (s : State) (n : Nat)
    (h : s.link.flags.getLsbD n = true) :
    (handClose r f s).link.flags.getLsbD n = true := by
  unfold handClose; try dsimp only
  repeat' split
  all_goals first | exact h | (simp (maxDischargeDepth := 9) [h]; done) | simp_all

@[simp] theorem endClaim_flags_stay (o : CloseOutcome) (s : State) (n : Nat)
    (h : s.link.flags.getLsbD n = true) :
    (endClaim o s).link.flags.getLsbD n = true := by
  unfold endClaim; try dsimp only
  repeat' split
  all_goals first | exact h | (simp (maxDischargeDepth := 9) [h]; done) | simp_all

@[simp] theorem enterWithdrawing_flags_stay (s : State) (n : Nat) (h : s.link.flags.getLsbD n = true) :
    (enterWithdrawing s).link.flags.getLsbD n = true := by
  unfold enterWithdrawing; try dsimp only
  repeat' split
  all_goals first | exact h | (simp (maxDischargeDepth := 9) [h]; done) | simp_all

@[simp] theorem releaseAndWithdraw_flags_stay (s : State) (n : Nat) (h : s.link.flags.getLsbD n = true) :
    (releaseAndWithdraw s).link.flags.getLsbD n = true := by
  unfold releaseAndWithdraw; try dsimp only
  repeat' split
  all_goals first | exact h | (simp (maxDischargeDepth := 9) [h]; done) | simp_all

@[simp] theorem withdrawPour_flags_stay (s : State) (n : Nat) (h : s.link.flags.getLsbD n = true) :
    (withdrawPour s).link.flags.getLsbD n = true := by
  unfold withdrawPour; try dsimp only
  repeat' split
  all_goals first | exact h | (simp (maxDischargeDepth := 9) [h]; done) | simp_all

@[simp] theorem enterHalted_flags_stay (c : HaltCause) (s : State) (n : Nat)
    (h : s.link.flags.getLsbD n = true) :
    (enterHalted c s).link.flags.getLsbD n = true := by
  unfold enterHalted; try dsimp only
  repeat' split
  all_goals first | exact h | (simp (maxDischargeDepth := 9) [h]; done) | simp_all

@[simp] theorem addCause_flags_stay (c : HaltCause) (s : State) (n : Nat)
    (h : s.link.flags.getLsbD n = true) :
    (addCause c s).link.flags.getLsbD n = true := by
  unfold addCause; try dsimp only
  repeat' split
  all_goals first | exact h | (simp (maxDischargeDepth := 9) [h]; done) | simp_all

@[simp] theorem raiseHalt_flags_stay (c : HaltCause) (s : State) (n : Nat)
    (h : s.link.flags.getLsbD n = true) :
    (raiseHalt c s).link.flags.getLsbD n = true := by
  unfold raiseHalt; try dsimp only
  repeat' split
  all_goals first | exact h | (simp (maxDischargeDepth := 9) [h]; done) | simp_all

@[simp] theorem haltAtRun_flags_stay (c : HaltCause) (s : State) (n : Nat)
    (h : s.link.flags.getLsbD n = true) :
    (haltAtRun c s).link.flags.getLsbD n = true := by
  unfold haltAtRun; try dsimp only
  repeat' split
  all_goals first | exact h | (simp (maxDischargeDepth := 9) [h]; done) | simp_all

@[simp] theorem beltStallTest_flags_stay (s : State) (n : Nat) (h : s.link.flags.getLsbD n = true) :
    (beltStallTest s).link.flags.getLsbD n = true := by
  unfold beltStallTest; try dsimp only
  repeat' split
  all_goals first | exact h | (simp (maxDischargeDepth := 9) [h]; done) | simp_all

@[simp] theorem tellFault_flags_stay (before : TravelState) (s : State) (n : Nat)
    (h : s.link.flags.getLsbD n = true) :
    (tellFault before s).link.flags.getLsbD n = true := by
  unfold tellFault; try dsimp only
  repeat' split
  all_goals first | exact h | (simp (maxDischargeDepth := 9) [h]; done) | simp_all

@[simp] theorem enterPour_flags_stay (s : State) (n : Nat) (h : s.link.flags.getLsbD n = true) :
    (enterPour s).link.flags.getLsbD n = true := by
  unfold enterPour; try dsimp only
  repeat' split
  all_goals first | exact h | (simp (maxDischargeDepth := 9) [h]; done) | simp_all

@[simp] theorem pauseUpdate_flags_stay (s : State) (n : Nat) (h : s.link.flags.getLsbD n = true) :
    (pauseUpdate s).link.flags.getLsbD n = true := by
  unfold pauseUpdate; try dsimp only
  repeat' split
  all_goals first | exact h | (simp (maxDischargeDepth := 9) [h]; done) | simp_all

@[simp] theorem atHatch_flags_stay (s : State) (n : Nat) (h : s.link.flags.getLsbD n = true) :
    (atHatch s).link.flags.getLsbD n = true := by
  unfold atHatch; try dsimp only
  repeat' split
  all_goals first | exact h | (simp (maxDischargeDepth := 9) [h]; done) | simp_all

@[simp] theorem moveToHatch_flags_stay (s : State) (n : Nat) (h : s.link.flags.getLsbD n = true) :
    (moveToHatch s).link.flags.getLsbD n = true := by
  unfold moveToHatch; try dsimp only
  repeat' split
  all_goals first | exact h | (simp (maxDischargeDepth := 9) [h]; done) | simp_all

@[simp] theorem positionAct_flags_stay (s : State) (n : Nat) (h : s.link.flags.getLsbD n = true) :
    (positionAct s).link.flags.getLsbD n = true := by
  unfold positionAct; try dsimp only
  repeat' split
  all_goals first | exact h | (simp (maxDischargeDepth := 9) [h]; done) | simp_all

@[simp] theorem cycleOffRail_flags_stay (s : State) (n : Nat) (h : s.link.flags.getLsbD n = true) :
    (cycleOffRail s).link.flags.getLsbD n = true := by
  unfold cycleOffRail; try dsimp only
  repeat' split
  all_goals first | exact h | (simp (maxDischargeDepth := 9) [h]; done) | simp_all

@[simp] theorem cycleSpout_flags_stay (s : State) (n : Nat) (h : s.link.flags.getLsbD n = true) :
    (cycleSpout s).link.flags.getLsbD n = true := by
  unfold cycleSpout; try dsimp only
  repeat' split
  all_goals first | exact h | (simp (maxDischargeDepth := 9) [h]; done) | simp_all

@[simp] theorem claimingFaults_flags_stay (s : State) (n : Nat) (h : s.link.flags.getLsbD n = true) :
    (claimingFaults s).link.flags.getLsbD n = true := by
  unfold claimingFaults; try dsimp only
  repeat' split
  all_goals first | exact h | (simp (maxDischargeDepth := 9) [h]; done) | simp_all

@[simp] theorem cycleWon_flags_stay (s : State) (n : Nat) (h : s.link.flags.getLsbD n = true) :
    (cycleWon s).link.flags.getLsbD n = true := by
  unfold cycleWon; try dsimp only
  repeat' split
  all_goals first | exact h | (simp (maxDischargeDepth := 9) [h]; done) | simp_all

@[simp] theorem endPour_flags_stay (o : PourOutcome) (s : State) (n : Nat)
    (h : s.link.flags.getLsbD n = true) :
    (endPour o s).link.flags.getLsbD n = true := by
  unfold endPour; try dsimp only
  repeat' split
  all_goals first | exact h | (simp (maxDischargeDepth := 9) [h]; done) | simp_all

@[simp] theorem claimTaken_flags_stay (o : PourOutcome) (e : Event) (s : State) (n : Nat)
    (h : s.link.flags.getLsbD n = true) :
    (claimTaken o e s).link.flags.getLsbD n = true := by
  unfold claimTaken; try dsimp only
  repeat' split
  all_goals first | exact h | (simp (maxDischargeDepth := 9) [h]; done) | simp_all

@[simp] theorem withdrawFrom_flags_stay (s : State) (n : Nat) (h : s.link.flags.getLsbD n = true) :
    (withdrawFrom s).link.flags.getLsbD n = true := by
  unfold withdrawFrom; try dsimp only
  repeat' split
  all_goals first | exact h | (simp (maxDischargeDepth := 9) [h]; done) | simp_all

@[simp] theorem resumeFrom_flags_stay (s : State) (n : Nat) (h : s.link.flags.getLsbD n = true) :
    (resumeFrom s).link.flags.getLsbD n = true := by
  unfold resumeFrom; try dsimp only
  repeat' split
  all_goals first | exact h | (simp (maxDischargeDepth := 9) [h]; done) | simp_all

@[simp] theorem cycleExposure_flags_stay (before : Exposure) (s : State) (n : Nat)
    (h : s.link.flags.getLsbD n = true) :
    (cycleExposure before s).link.flags.getLsbD n = true := by
  unfold cycleExposure; try dsimp only
  repeat' split
  all_goals first | exact h | (simp (maxDischargeDepth := 9) [h]; done) | simp_all

@[simp] theorem takeExposure_flags_stay (e : Exposure) (s : State) (n : Nat)
    (h : s.link.flags.getLsbD n = true) :
    (takeExposure e s).link.flags.getLsbD n = true := by
  unfold takeExposure; try dsimp only
  repeat' split
  all_goals first | exact h | (simp (maxDischargeDepth := 9) [h]; done) | simp_all

@[simp] theorem refreshExposure_flags_stay (s : State) (n : Nat) (h : s.link.flags.getLsbD n = true) :
    (refreshExposure s).link.flags.getLsbD n = true := by
  unfold refreshExposure; try dsimp only
  repeat' split
  all_goals first | exact h | (simp (maxDischargeDepth := 9) [h]; done) | simp_all

@[simp] theorem refreshMarks_flags_stay (s : State) (n : Nat) (h : s.link.flags.getLsbD n = true) :
    (refreshMarks s).link.flags.getLsbD n = true := by
  unfold refreshMarks; try dsimp only
  repeat' split
  all_goals first | exact h | (simp (maxDischargeDepth := 9) [h]; done) | simp_all

@[simp] theorem settlePeers_flags_stay (before s : State) (n : Nat) (h : s.link.flags.getLsbD n = true) :
    (settlePeers before s).link.flags.getLsbD n = true := by
  unfold settlePeers; try dsimp only
  repeat' split
  all_goals first | exact h | (simp (maxDischargeDepth := 9) [h]; done) | simp_all

@[simp] theorem settleWindow_flags_stay (before s : State) (n : Nat) (h : s.link.flags.getLsbD n = true) :
    (settleWindow before s).link.flags.getLsbD n = true := by
  unfold settleWindow; try dsimp only
  repeat' split
  all_goals first | exact h | (simp (maxDischargeDepth := 9) [h]; done) | simp_all

@[simp] theorem movePosition_flags_stay (before s : State) (n : Nat) (h : s.link.flags.getLsbD n = true) :
    (movePosition before s).link.flags.getLsbD n = true := by
  unfold movePosition; try dsimp only
  repeat' split
  all_goals first | exact h | (simp (maxDischargeDepth := 9) [h]; done) | simp_all

@[simp] theorem settleLevels_flags_stay (before s : State) (n : Nat) (h : s.link.flags.getLsbD n = true) :
    (settleLevels before s).link.flags.getLsbD n = true := by
  unfold settleLevels; try dsimp only
  repeat' split
  all_goals first | exact h | (simp (maxDischargeDepth := 9) [h]; done) | simp_all

@[simp] theorem claimHeard_flags_stay (accepted : Bool) (s : State) (n : Nat)
    (h : s.link.flags.getLsbD n = true) :
    (claimHeard accepted s).link.flags.getLsbD n = true := by
  unfold claimHeard; try dsimp only
  repeat' split
  all_goals first | exact h | (simp (maxDischargeDepth := 9) [h]; done) | simp_all

@[simp] theorem ownClaimEnds_flags_stay (own : Bool) (f : Frame) (t : Tranche) (s : State) (n : Nat)
    (h : s.link.flags.getLsbD n = true) :
    (ownClaimEnds own f t s).link.flags.getLsbD n = true := by
  unfold ownClaimEnds; try dsimp only
  repeat' split
  all_goals first | exact h | (simp (maxDischargeDepth := 9) [h]; done) | simp_all

@[simp] theorem mergeFrame_flags_stay (b : Nat) (own : Bool) (f : Frame) (s : State) (n : Nat)
    (h : s.link.flags.getLsbD n = true) :
    (mergeFrame b own f s).link.flags.getLsbD n = true := by
  unfold mergeFrame; try dsimp only
  repeat' split
  all_goals first | exact h | (simp (maxDischargeDepth := 9) [h]; done) | simp_all

@[simp] theorem makeClaim_flags_stay (t : Tranche) (plan : Nat) (s : State) (n : Nat)
    (h : s.link.flags.getLsbD n = true) :
    (makeClaim t plan s).link.flags.getLsbD n = true := by
  unfold makeClaim tellDrop; try dsimp only
  repeat' split
  all_goals first | exact h | (simp (maxDischargeDepth := 9) [h]; done) | simp_all

@[simp] theorem attempt_flags_stay (s : State) (n : Nat) (h : s.link.flags.getLsbD n = true) :
    (attempt s).link.flags.getLsbD n = true := by
  unfold attempt; try dsimp only
  repeat' split
  all_goals first | exact h | (simp (maxDischargeDepth := 9) [h]; done) | simp_all

@[simp] theorem creditInterval_flags_stay (s : State) (n : Nat) (h : s.link.flags.getLsbD n = true) :
    (creditInterval s).link.flags.getLsbD n = true := by
  unfold creditInterval; try dsimp only
  repeat' split
  all_goals first | exact h | (simp (maxDischargeDepth := 9) [h]; done) | simp_all

@[simp] theorem endCalibration_flags_stay (r : ZeroResult) (s : State) (n : Nat)
    (h : s.link.flags.getLsbD n = true) :
    (endCalibration r s).link.flags.getLsbD n = true := by
  unfold endCalibration; try dsimp only
  repeat' split
  all_goals first | exact h | (simp (maxDischargeDepth := 9) [h]; done) | simp_all

@[simp] theorem calibrate_flags_stay (s : State) (n : Nat) (h : s.link.flags.getLsbD n = true) :
    (calibrate s).link.flags.getLsbD n = true := by
  unfold calibrate; try dsimp only
  repeat' split
  all_goals first | exact h | (simp (maxDischargeDepth := 9) [h]; done) | simp_all

@[simp] theorem trimInterval_flags_stay (s : State) (n : Nat) (h : s.link.flags.getLsbD n = true) :
    (trimInterval s).link.flags.getLsbD n = true := by
  unfold trimInterval; try dsimp only
  repeat' split
  all_goals first | exact h | (simp (maxDischargeDepth := 9) [h]; done) | simp_all

@[simp] theorem openPour_flags_stay (s : State) (n : Nat) (h : s.link.flags.getLsbD n = true) :
    (openPour s).link.flags.getLsbD n = true := by
  unfold openPour; try dsimp only
  repeat' split
  all_goals first | exact h | (simp (maxDischargeDepth := 9) [h]; done) | simp_all

@[simp] theorem closeClaim_flags_stay (r : ClosingReport) (s : State) (n : Nat)
    (h : s.link.flags.getLsbD n = true) :
    (closeClaim r s).link.flags.getLsbD n = true := by
  unfold closeClaim; try dsimp only
  repeat' split
  all_goals first | exact h | (simp (maxDischargeDepth := 9) [h]; done) | simp_all

@[simp] theorem completeEnd_flags_stay (kg : Nat) (s : State) (n : Nat)
    (h : s.link.flags.getLsbD n = true) :
    (completeEnd kg s).link.flags.getLsbD n = true := by
  unfold completeEnd; try dsimp only
  repeat' split
  all_goals first | exact h | (simp (maxDischargeDepth := 9) [h]; done) | simp_all

@[simp] theorem storeBill_flags_stay (r : ClosingReport) (s : State) (n : Nat)
    (h : s.link.flags.getLsbD n = true) :
    (storeBill r s).link.flags.getLsbD n = true := by
  unfold storeBill; try dsimp only
  repeat' split
  all_goals first | exact h | (simp (maxDischargeDepth := 9) [h]; done) | simp_all

@[simp] theorem endAfterClose_flags_stay (r : ClosingReport) (s : State) (n : Nat)
    (h : s.link.flags.getLsbD n = true) :
    (endAfterClose r s).link.flags.getLsbD n = true := by
  unfold endAfterClose; try dsimp only
  repeat' split
  all_goals first | exact h | (simp (maxDischargeDepth := 9) [h]; done) | simp_all

@[simp] theorem closePour_flags_stay (o : PourOutcome) (s : State) (n : Nat)
    (h : s.link.flags.getLsbD n = true) :
    (closePour o s).link.flags.getLsbD n = true := by
  unfold closePour; try dsimp only
  repeat' split
  all_goals first | exact h | (simp (maxDischargeDepth := 9) [h]; done) | simp_all

@[simp] theorem openOrClose_flags_stay (s : State) (n : Nat) (h : s.link.flags.getLsbD n = true) :
    (openOrClose s).link.flags.getLsbD n = true := by
  unfold openOrClose; try dsimp only
  repeat' split
  all_goals first | exact h | (simp (maxDischargeDepth := 9) [h]; done) | simp_all

@[simp] theorem regulateInterval_flags_stay (credited : Bool) (g : Nat) (s : State) (n : Nat)
    (h : s.link.flags.getLsbD n = true) :
    (regulateInterval credited g s).link.flags.getLsbD n = true := by
  unfold regulateInterval; try dsimp only
  repeat' split
  all_goals first | exact h | (simp (maxDischargeDepth := 9) [h]; done) | simp_all

@[simp] theorem intervalEnd_flags_stay (s : State) (n : Nat) (h : s.link.flags.getLsbD n = true) :
    (intervalEnd s).link.flags.getLsbD n = true := by
  unfold intervalEnd; try dsimp only
  repeat' split
  all_goals first | exact h | (simp (maxDischargeDepth := 9) [h]; done) | simp_all

@[simp] theorem shiftFrame_flags_stay (n : Nat) (s : State) (n : Nat) (h : s.link.flags.getLsbD n = true) :
    (shiftFrame n s).link.flags.getLsbD n = true := by
  unfold shiftFrame; try dsimp only
  repeat' split
  all_goals first | exact h | (simp (maxDischargeDepth := 9) [h]; done) | simp_all

@[simp] theorem dustSecond_flags_stay (s : State) (n : Nat) (h : s.link.flags.getLsbD n = true) :
    (dustSecond s).link.flags.getLsbD n = true := by
  unfold dustSecond; try dsimp only
  repeat' split
  all_goals first | exact h | (simp (maxDischargeDepth := 9) [h]; done) | simp_all

@[simp] theorem tallySecond_flags_stay (s : State) (n : Nat) (h : s.link.flags.getLsbD n = true) :
    (tallySecond s).link.flags.getLsbD n = true := by
  unfold tallySecond; try dsimp only
  repeat' split
  all_goals first | exact h | (simp (maxDischargeDepth := 9) [h]; done) | simp_all

@[simp] theorem secondTickActs_flags_stay (s : State) (n : Nat) (h : s.link.flags.getLsbD n = true) :
    (secondTickActs s).link.flags.getLsbD n = true := by
  unfold secondTickActs; try dsimp only
  repeat' split
  all_goals first | exact h | (simp (maxDischargeDepth := 9) [h]; done) | simp_all

@[simp] theorem resendClose_flags_stay (s : State) (n : Nat) (h : s.link.flags.getLsbD n = true) :
    (resendClose s).link.flags.getLsbD n = true := by
  unfold resendClose; try dsimp only
  repeat' split
  all_goals first | exact h | (simp (maxDischargeDepth := 9) [h]; done) | simp_all

@[simp] theorem holdTick_flags_stay (s : State) (n : Nat) (h : s.link.flags.getLsbD n = true) :
    (holdTick s).link.flags.getLsbD n = true := by
  unfold holdTick; try dsimp only
  repeat' split
  all_goals first | exact h | (simp (maxDischargeDepth := 9) [h]; done) | simp_all

@[simp] theorem beaconTickActs_flags_stay (s : State) (n : Nat) (h : s.link.flags.getLsbD n = true) :
    (beaconTickActs s).link.flags.getLsbD n = true := by
  unfold beaconTickActs; try dsimp only
  repeat' split
  all_goals first | exact h | (simp (maxDischargeDepth := 9) [h]; done) | simp_all

@[simp] theorem silencePeer_flags_stay (i : Nat) (s : State) (n : Nat)
    (h : s.link.flags.getLsbD n = true) :
    (silencePeer i s).link.flags.getLsbD n = true := by
  unfold silencePeer; try dsimp only
  repeat' split
  all_goals first | exact h | (simp (maxDischargeDepth := 9) [h]; done) | simp_all

@[simp] theorem countError_flags_stay (e : RxError) (s : State) (n : Nat)
    (h : s.link.flags.getLsbD n = true) :
    (countError e s).link.flags.getLsbD n = true := by
  unfold countError; try dsimp only
  repeat' split
  all_goals first | exact h | (simp (maxDischargeDepth := 9) [h]; done) | simp_all

end Sys2Proof.Machine
end

