-- ==== Sys2Proof/Laws/State.lean ====
section
/-! SUPPORT. The fields that each plain update of the state sets, and those of its neighbours it keeps: one lemma per field, true by
rfl, so that no later proof unfolds a record update. -/

namespace Sys2Proof.Machine

/-! ### The link (R189, R194) -/

@[simp] theorem respond_buf (c : Byte) (a : Answer) (s : State) :
    (respond c a s).link.buf = some { code := c, status := a.status, reason := a.reason, result := a.result } := rfl
@[simp] theorem respond_miso (c : Byte) (a : Answer) (s : State) : (respond c a s).link.miso = s.link.miso := rfl
@[simp] theorem respond_flags (c : Byte) (a : Answer) (s : State) : (respond c a s).link.flags = s.link.flags := rfl
@[simp] theorem respond_enables (c : Byte) (a : Answer) (s : State) :
    (respond c a s).link.enables = s.link.enables := rfl
@[simp] theorem shiftFrame_buf (n : Nat) (s : State) : (shiftFrame n s).link.buf = none := rfl
@[simp] theorem shiftFrame_miso (n : Nat) (s : State) : (shiftFrame n s).link.miso = shiftOut s.link.buf n := rfl
@[simp] theorem shiftFrame_flags (n : Nat) (s : State) : (shiftFrame n s).link.flags = s.link.flags := rfl
@[simp] theorem shiftFrame_enables (n : Nat) (s : State) : (shiftFrame n s).link.enables = s.link.enables := rfl
@[simp] theorem raise_flags (e : Event) (s : State) : (raise e s).link.flags = s.link.flags ||| e.mask := rfl

/-! ### The converter (R2) -/

@[simp] theorem deliver_busy (i : AdcInput) (s : State) : (deliver i s).conv.busy = none := rfl
@[simp] theorem deliver_requests (i : AdcInput) (s : State) :
    (deliver i s).conv.requests = s.conv.requests.filter (· != i) := rfl

/-! ### Travel (R143, R156) -/

@[simp] theorem parked_state (st : TravelState) (t : Travel) : (parked st t).state = st := rfl
@[simp] theorem parked_homing (st : TravelState) (t : Travel) : (parked st t).homing = false := rfl
@[simp] theorem parked_drive (st : TravelState) (t : Travel) : (parked st t).drive = .off := rfl
@[simp] theorem parked_moveSpan (st : TravelState) (t : Travel) : (parked st t).moveSpan = none := rfl
@[simp] theorem parked_held (st : TravelState) (t : Travel) : (parked st t).held = false := rfl
@[simp] theorem parked_stallMs (st : TravelState) (t : Travel) : (parked st t).stallMs = none := rfl
@[simp] theorem parked_restMs (st : TravelState) (t : Travel) : (parked st t).restMs = none := rfl
@[simp] theorem parked_count (st : TravelState) (t : Travel) : (parked st t).count = t.count := rfl
@[simp] theorem parked_referenced (st : TravelState) (t : Travel) : (parked st t).referenced = t.referenced := rfl
@[simp] theorem parked_target (st : TravelState) (t : Travel) : (parked st t).target = t.target := rfl
@[simp] theorem parked_targetHold (st : TravelState) (t : Travel) : (parked st t).targetHold = t.targetHold := rfl
@[simp] theorem parked_fault (st : TravelState) (t : Travel) : (parked st t).fault = t.fault := rfl
@[simp] theorem noTarget_target (t : Travel) : (noTarget t).target = none := rfl
@[simp] theorem noTarget_targetHold (t : Travel) : (noTarget t).targetHold = none := rfl
@[simp] theorem noTarget_state (t : Travel) : (noTarget t).state = t.state := rfl
@[simp] theorem noTarget_drive (t : Travel) : (noTarget t).drive = t.drive := rfl
@[simp] theorem noTarget_homing (t : Travel) : (noTarget t).homing = t.homing := rfl
@[simp] theorem noTarget_moveSpan (t : Travel) : (noTarget t).moveSpan = t.moveSpan := rfl
@[simp] theorem noTarget_count (t : Travel) : (noTarget t).count = t.count := rfl
@[simp] theorem noTarget_referenced (t : Travel) : (noTarget t).referenced = t.referenced := rfl

/-! ### Claim and cycle (R118, R158, R170) -/

@[simp] theorem claimGone_state (s : State) : (claimGone s).claim.state = .none := rfl
@[simp] theorem claimGone_own (s : State) : (claimGone s).claim.own = none := rfl
@[simp] theorem claimGone_trim (s : State) : (claimGone s).claim.trim = false := rfl
@[simp] theorem markEnding_ending (s : State) : (markEnding s).cycle.ending = true := rfl
@[simp] theorem markEnding_state (s : State) : (markEnding s).cycle.state = s.cycle.state := rfl
@[simp] theorem clearCauses_causes (s : State) : (clearCauses s).cycle.causes = [] := rfl
@[simp] theorem clearCauses_haltCause (s : State) : (clearCauses s).cycle.haltCause = none := rfl
@[simp] theorem clearCauses_state (s : State) : (clearCauses s).cycle.state = s.cycle.state := rfl

/-! ### Peers (R81) -/

@[simp] theorem setPeer_peers (i : Nat) (p : Peer) (s : State) : (setPeer i p s).peers = s.peers.set i p := rfl

end Sys2Proof.Machine
end

