-- ==== Sys2Proof/Laws/Link.lean ====
section
/-! SUPPORT. What a whole link frame gives its command (R189), and what a command sees of the frame that carries it. -/

namespace Sys2Proof.Machine

/-- A whole frame whose fields have the command's length gives the command its fields (R189 steps 1 and 4). -/
theorem linkFields_of_frames {fits : List Byte → Bool} {fs rest : List Byte} (h : frames fs rest)
    (hf : fits fs = true) : linkFields fits rest = some fs := by
  obtain ⟨hlen, h64, pad, rfl⟩ := h
  have hb : (BitVec.ofNat 8 fs.length).toNat = fs.length := by simp [Nat.mod_eq_of_lt hlen]
  have h1 : ¬ 64 < (BitVec.ofNat 8 fs.length :: (fs ++ pad)).length + 1 := by omega
  unfold linkFields
  rw [if_neg h1]
  simp only [hb]
  simp [hf]

/-- A whole frame whose fields do not have the command's length is BAD_LENGTH. -/
theorem linkFields_of_frames_unfit {fits : List Byte → Bool} {fs rest : List Byte} (h : frames fs rest)
    (hf : fits fs = false) : linkFields fits rest = none := by
  obtain ⟨hlen, h64, pad, rfl⟩ := h
  have hb : (BitVec.ofNat 8 fs.length).toNat = fs.length := by simp [Nat.mod_eq_of_lt hlen]
  have h1 : ¬ 64 < (BitVec.ofNat 8 fs.length :: (fs ++ pad)).length + 1 := by omega
  unfold linkFields
  rw [if_neg h1]
  simp only [hb]
  simp [hf]

/-- A frame over 64 bytes is BAD_LENGTH. -/
theorem linkFields_of_long {fits : List Byte → Bool} {rest : List Byte} (h : 64 < rest.length + 1) :
    linkFields fits rest = none := by
  simp [linkFields, h]

/-- The fields a command is given came in a whole frame. -/
theorem frames_of_linkFields {fits : List Byte → Bool} {fs rest : List Byte} (h : linkFields fits rest = some fs) :
    frames fs rest ∧ fits fs = true := by
  unfold linkFields at h
  split at h
  · cases h
  · rename_i h64
    split at h
    · cases h
    · rename_i len bytes
      split at h
      · cases h
      · rename_i hle
        split at h
        · rename_i hf
          cases h
          have hl : (bytes.take len.toNat).length = len.toNat := by simp; omega
          refine ⟨⟨?_, Nat.le_of_not_lt h64, bytes.drop len.toNat, ?_⟩, hf⟩
          · rw [hl]; exact len.isLt
          · rw [hl, List.take_append_drop]; simp
        · cases h

/-- A host command on a whole frame is its own rule between the shifting out and the response. -/
theorem hostCommand_of_frames {code : Byte} {fits : List Byte → Bool} {fs rest : List Byte}
    {body : List Byte → State → State × Answer} {s : State} (h : frames fs rest) (hf : fits fs = true) :
    hostCommand code fits rest body s =
      respond code (body fs (shiftFrame (rest.length + 1) s)).2 (body fs (shiftFrame (rest.length + 1) s)).1 := by
  simp [hostCommand, linkFields_of_frames h hf]

/-- After RUN a command's rule acts. -/
@[simp] theorem afterRun_of_running {body : State → State × Answer} {s : State} (h : s.running = true) :
    afterRun body s = body s := by simp [afterRun, h]

/-- Before RUN it is refused with NOT_RUNNING (R190). -/
@[simp] theorem afterRun_of_not_running {body : State → State × Answer} {s : State} (h : s.running = false) :
    afterRun body s = (s, refuse .notRunning) := by simp [afterRun, h]

end Sys2Proof.Machine
end

