-- ==== Sys2Proof/Laws/Records.lean ====
section
/-! SUPPORT. The words of a result record (R198): each form that a command's answer is built with is the word the statements
name, and its length. -/

namespace Sys2Proof.Machine

theorem le_length (n v : Nat) : (le n v).length = n := by
  induction n generalizing v with
  | zero => rfl
  | succ n ih => simp [le, ih]

theorem flatMap_le_length (n : Nat) (l : List Nat) : (l.flatMap (le n)).length = l.length * n := by
  induction l with
  | nil => simp
  | cons a l ih => simp [le_length, ih, Nat.add_mul, Nat.add_comm]

theorem truth_length (b : Bool) : (truth b).length = 1 := rfl

theorem flagByte_eq_truth (b : Bool) : flagByte b = truth b := by cases b <;> rfl

theorem setBytes_eq_le_setNumber (n : Nat) (l : List Bool) : setBytes n l = le n (setNumber l) := by
  unfold setBytes
  congr 1
  induction l with
  | nil => rfl
  | cons b l ih => simp [setNumber, ← ih]

theorem numOrAbsent_length (n : Nat) (v : Option Nat) : (numOrAbsent n v).length = n + 1 := by
  cases v <;> simp [numOrAbsent, le_length]

theorem optNum_eq_numOrAbsent (n : Nat) (v : Option Nat) : optNum n v = numOrAbsent n v := by
  cases v <;> simp [optNum, optBytes, numOrAbsent]

theorem endsOrAbsent_length (x : Option Stretch) : (endsOrAbsent x).length = 5 := by
  cases x <;> simp [endsOrAbsent, ends, le_length]

theorem optStretch_eq_endsOrAbsent (x : Option Stretch) : optStretch x = endsOrAbsent x := by
  cases x <;> simp [optStretch, optBytes, endsOrAbsent, ends]

theorem railEnds_length (s : State) (x : Option Stretch) : (railEnds s x).length = 5 := by
  unfold railEnds
  cases s.cfg.rail <;> cases x <;> simp [ends, le_length]

theorem railStretch_eq_railEnds (s : State) (x : Option Stretch) : railStretch s x = railEnds s x := by
  unfold railStretch railEnds stretchOrEmpty optBytes ends
  cases s.cfg.rail <;> cases x <;> simp

theorem twosComplement_length (n : Nat) (z : Int) : (twosComplement n z).length = n := le_length _ _

theorem leSigned_eq_twosComplement (n : Nat) (z : Int) : leSigned n z = twosComplement n z := rfl

theorem signedOrAbsent_length (n : Nat) (v : Option Int) : (signedOrAbsent n v).length = n + 1 := by
  cases v <;> simp [signedOrAbsent, twosComplement_length]

theorem optSigned_eq_signedOrAbsent (n : Nat) (v : Option Int) : optBytes n (v.map (leSigned n)) = signedOrAbsent n v := by
  cases v <;> simp [optBytes, signedOrAbsent, leSigned_eq_twosComplement]

theorem headRow_length (s : State) (k : Fin 4) : (headRow s k).length = 12 + 2 * (headAt s k.val).history.length := by
  simp only [headRow, List.length_append, List.length_cons, truth_length, numOrAbsent_length, le_length, flatMap_le_length]
  omega

end Sys2Proof.Machine
end

