-- ==== Sys2Proof/Laws/Values.lean ====
section
/-! SUPPORT. What the shared operations set: the cycle state, the feed mode, the travel state and drive, what a SPAN handed
over and a reservation check can leave, the halt, the interval that begins, the request list, head power and sampling, the
transmit queue, the CLOSE handed over again, the limits. -/

namespace Sys2Proof.Machine

/-! ### Feed -/

/-- R25: a SHUT regulator is in SHUT. -/
@[simp] theorem shutFeed_mode (s : State) : (shutFeed s).feed.mode = .shut := by
  unfold shutFeed; split <;> simp_all

/-- R39: the gate code of a SHUT regulator is 0. -/
theorem gateCode_of_shut {s : State} (h : s.feed.mode = .shut) : gateCode s = 0 := by
  unfold gateCode; split <;> simp [h]

/-! ### Cycle state -/

@[simp] theorem continuousTest_cycle (s : State) : (continuousTest s).cycle = s.cycle := by simp

/-- R158: a change of cycle state enters it. -/
@[simp] theorem setCycle_state (c : CycleState) (s : State) : (setCycle c s).cycle.state = c := by
  simp [setCycle]

/-- R162, R167: LOST leaves every cycle state but CLAIMING and WITHDRAWING. -/
theorem cycleLost_of_neither {s : State} (h : s.cycle.state ≠ .claiming) (h' : s.cycle.state ≠ .withdrawing) :
    cycleLost s = s := by
  simp [cycleLost, withdrawCheck, h, h']

/-- R167: WITHDRAWING ends at the first moment at which its three conditions hold, and then in IDLE. -/
theorem withdrawCheck_of_all {s : State} (hw : s.cycle.state = .withdrawing) (hs : s.spout.state = .raised)
    (hp : pourBegun s = false) (hc : s.claim.state = .none) : (withdrawCheck s).cycle.state = .idle := by
  simp [withdrawCheck, hw, hs, hp, hc]

/-- R167: what a check of WITHDRAWING can leave: the state as it was, or IDLE. -/
theorem withdrawCheck_cases (s : State) : withdrawCheck s = s ∨ withdrawCheck s = setCycle .idle s := by
  unfold withdrawCheck; split <;> simp

/-- A claim withdrawn outside CLAIMING and WITHDRAWING leaves the cycle state. -/
theorem withdrawClaim_state {s : State} (h : s.cycle.state ≠ .claiming) (h' : s.cycle.state ≠ .withdrawing) :
    (withdrawClaim s).cycle.state = s.cycle.state := by
  unfold withdrawClaim
  repeat' split
  all_goals first | rfl | skip
  unfold claimLost
  rw [cycleLost_of_neither] <;> simp [h, h']

/-- R166: a settle enters SETTLING with its outcome and its timer from zero. -/
theorem startSettle_sets (o : SettleOutcome) (s : State) :
    (startSettle o s).cycle.state = .settling ∧ (startSettle o s).cycle.settleOutcome = some o ∧
      (startSettle o s).cycle.settleMs = some 0 := by
  unfold startSettle setCycle
  simp
  repeat' split
  all_goals simp [restartAttendance]

/-! ### Halts -/

/-- R169: the entry to HALTED. -/
theorem enterHalted_state (c : HaltCause) (s : State) : (enterHalted c s).cycle.state = .halted := by
  unfold enterHalted
  rw [withdrawClaim_state] <;> simp

/-- R168: a cause raised outside IDLE, and one that halts IDLE too, finds or leaves the station HALTED. -/
theorem raiseHalt_state {c : HaltCause} {s : State} (h : s.cycle.state ≠ .idle ∨ haltsIdle c = true) :
    (raiseHalt c s).cycle.state = .halted := by
  unfold raiseHalt
  split
  · rename_i hs; unfold addCause; split <;> simp [hs, recordHalt] <;> split <;> simp [hs]
  · rename_i hs
    rcases h with h | h
    · exact absurd hs h
    · simp [h, enterHalted_state]
  · exact enterHalted_state c s

/-- R168: a cause that does not halt IDLE changes nothing there. -/
theorem raiseHalt_idle {c : HaltCause} {s : State} (hs : s.cycle.state = .idle) (h : haltsIdle c = false) :
    raiseHalt c s = s := by
  simp [raiseHalt, hs, h]

/-! ### Travel -/

/-- R148: FAULTED, with its cause, parked and without a target. -/
theorem faultTravel_sets (c : TravelFault) (s : State) :
    (faultTravel c s).travel = { noTarget (parked .faulted s.travel) with fault := some c } := by
  unfold faultTravel handSpan
  simp only [raise_frame]
  split
  · unfold enqueue tellDrop; split
    · rename_i g _; unfold dropNotice; repeat' split
      all_goals simp_all [place_frame]
    · simp [place_frame]
  · rfl

/-- R142: the proximity test leaves a tower whose drive does not run toward an active switch. -/
theorem proxTest_clear {s : State} (h : ∀ d, s.travel.drive.dir = some d → proxActive s d = false) : proxTest s = s := by
  unfold proxTest; split
  · rename_i d hd; simp [h d hd]
  · rfl

/-- R144: a move request has a target exactly when a parked, referenced tower with the spout up is asked to a hold of the
plan whose hatch centre lies on the own stretch of the rail. -/
theorem moveTarget_ok {s : State} {hold g : Nat} :
    moveTarget s hold = .ok g ↔
      s.travel.state = .stopped ∧ s.travel.homing = false ∧ s.travel.referenced = true ∧ s.spout.state = .raised ∧
        ∃ h, findHold s hold = some h ∧ targetOnRail s (hatchCentre s h) = true ∧ g = hatchCentre s h := by
  unfold moveTarget
  repeat' split
  all_goals simp_all
  all_goals first | exact eq_comm | (rename_i h; intro hs hh; rcases h with h | h <;> simp_all)

/-- R144: a refused move request changes nothing. -/
theorem requestMove_refused {s : State} {hold : Nat} {r : MoveRefusal} (h : moveTarget s hold = .error r) :
    requestMove hold s = (s, .refused r) := by
  simp [requestMove, h]

/-- R149: at a beacon tick a held move whose overlap has gone only counts the tick. -/
theorem holdTick_of_clear {s : State} (h : s.travel.held = true) (ho : overlapStands s = false) :
    holdTick s = { s with travel := { s.travel with holdTicks := min 255 (s.travel.holdTicks + 1) } } := by
  unfold holdTick
  rw [if_pos h]
  refine if_neg ?_
  intro hc
  have hc := (Bool.and_eq_true _ _).mp hc
  exact absurd (hc.2.symm.trans ho) (by decide)

/-- R149: a beacon tick leaves a move that is not held. -/
theorem holdTick_of_free {s : State} (h : s.travel.held = false) : holdTick s = s := by
  simp [holdTick, h]

/-- R143, R146: a SPAN handed over leaves the tower as it is, or, dropped in RESERVING, sends it back to WAITING. -/
theorem handSpan_travel (s : State) :
    (handSpan s).travel = s.travel ∨
      s.travel.state = .reserving ∧ (handSpan s).travel = { s.travel with state := .waiting, moveSpan := none } := by
  unfold handSpan enqueue tellDrop
  split
  · split
    · rename_i g _
      cases g <;> simp only [dropNotice, placeBody]
      all_goals (repeat' split)
      all_goals simp_all [place_frame]
    · exact .inl (by simp [place_frame])
  · exact .inl rfl

/-- R145: a reservation check leaves the target, its hold and the overshoot count, with the drive off and no hold; a move
span is the move formula's, and stands in RESERVING alone, on success alone. -/
theorem reservationCheck_cases (g : Nat) (s : State) :
    (reservationCheck g s).travel.target = s.travel.target ∧
      (reservationCheck g s).travel.targetHold = s.travel.targetHold ∧
      (reservationCheck g s).travel.overshoots = s.travel.overshoots ∧
      (reservationCheck g s).travel.drive = .off ∧ (reservationCheck g s).travel.held = false ∧
      ((reservationCheck g s).travel.state = .reserving ∧
          (reservationCheck g s).travel.moveSpan = some (moveFormula s (position s) g) ∧ s.qli.degraded = false ∧
          overlapping s (moveFormula s (position s) g) = [] ∨
        (reservationCheck g s).travel.state = .waiting ∧ (reservationCheck g s).travel.moveSpan = none) := by
  simp only [reservationCheck]
  split
  · rename_i h
    obtain ⟨hd, ho⟩ := (Bool.and_eq_true _ _).mp h
    rcases handSpan_travel { s with travel := { parked .reserving s.travel with
      moveSpan := some (moveFormula s (position s) g), approach := none } } with h | ⟨_, h⟩
    all_goals rw [h]; simp_all [parked]
  · simp [parked]

/-! ### The interval -/

/-- R4, R5, R9: of the scale the interval that begins clears pulses and flags, and keeps the flags of the one that ended. -/
theorem nextInterval_scale (i : IntervalFlags) (s : State) :
    (nextInterval i s).scale =
      { s.scale with prevFlags := i, pulses := 0, overrange := false, pulseSat := false } := by
  unfold nextInterval
  simp only [requestConversions_frame]
  split <;> rfl

/-! ### The converter -/

/-- R3: a request joins the list. -/
theorem mem_insertRequest (i j : AdcInput) (l : List AdcInput) :
    j ∈ insertRequest i l ↔ j = i ∨ j ∈ l := by
  induction l with
  | nil => simp [insertRequest]
  | cons a l ih =>
    unfold insertRequest
    repeat' split
    all_goals simp_all [or_left_comm]

/-- R3: after the requests have joined, the list holds them and what it held. -/
theorem mem_requestConversions (is : List AdcInput) (j : AdcInput) (s : State) :
    j ∈ (requestConversions is s).conv.requests ↔ j ∈ is ∨ j ∈ s.conv.requests := by
  have fold : ∀ (is l : List AdcInput), j ∈ is.foldl (fun l i => insertRequest i l) l ↔ j ∈ is ∨ j ∈ l := by
    intro is
    induction is with
    | nil => simp
    | cons a is ih => intro l; simp only [List.foldl_cons, ih, mem_insertRequest, List.mem_cons]; rw [or_left_comm, or_assoc]
  have keep : (requestConversions is s).conv.requests =
      is.foldl (fun l i => insertRequest i l) s.conv.requests := by
    unfold requestConversions grant; split <;> rfl
  rw [keep, fold]

/-! ### Head power and sampling -/

/-- R48: a history of fewer than four readings grows by the one that arrives. -/
theorem pushReading_of_short {l : List Nat} (h : l.length < 4) (r : Nat) : pushReading r l = l ++ [r] := by
  unfold pushReading
  rw [show l.length + 1 - 4 = 0 by omega]; rfl

/-- R48: of four readings the oldest leaves. -/
@[simp] theorem pushReading_of_full (r w x y z : Nat) : pushReading r [w, x, y, z] = [x, y, z, r] := rfl

/-- A map of the heads by number, head by head. -/
theorem mapHeads_getElem? (f : Nat → Head → Head) (i j : Nat) (l : List Head) :
    (mapHeads f i l)[j]? = (l[j]?).map (f (i + j)) := by
  induction l generalizing i j with
  | nil => simp [mapHeads]
  | cons h l ih =>
    cases j with
    | zero => simp [mapHeads]
    | succ j => simp only [mapHeads, List.getElem?_cons_succ, ih]; congr 2; omega

/-- A map of the heads keeps their number. -/
theorem mapHeads_length (f : Nat → Head → Head) (i : Nat) (l : List Head) : (mapHeads f i l).length = l.length := by
  induction l generalizing i with
  | nil => rfl
  | cons h l ih => simp [mapHeads, ih]

/-- The power output of a head after a map of the heads. -/
theorem mapHeads_power {f : Nat → Head → Head} {l : List Head} {k : Nat} (hk : k < l.length) :
    ((mapHeads f 0 l).getD k .reset).power = (f k (l.getD k .reset)).power := by
  simp [List.getD_eq_getElem?_getD, mapHeads_getElem?, hk]

/-- R46: a head's request is pending exactly while it stands in the request list. -/
theorem samplePending_iff (s : State) (k : Fin 4) : samplePending s k.val = true ↔ AdcInput.head k ∈ s.conv.requests := by
  unfold samplePending
  rw [List.any_eq_true]
  constructor
  · rintro ⟨x, hx, h⟩
    cases x with
    | load => simp at h
    | head j => have : j = k := Fin.ext (by simpa using h); exact this ▸ hx
  · intro h; exact ⟨_, h, by simp⟩

/-- R46: every output is off exactly when that of each of the four heads is. -/
theorem allOff_iff {s : State} (h4 : s.dust.heads.length = 4) :
    allOff s = true ↔ ∀ k : Fin 4, (headAt s k.val).power = false := by
  unfold allOff headAt
  match hh : s.dust.heads, h4 with
  | [a, b, c, d], _ => simp [Fin.forall_fin_succ]

/-- R46: the entry to WARMING. -/
theorem enterWarming_warms {s : State} (h4 : s.dust.heads.length = 4) (warm : Nat) : warms warm s (enterWarming warm s) := by
  refine ⟨rfl, rfl, rfl, rfl, fun k => ?_⟩
  exact mapHeads_power (by omega)

/-- R46: the entry to DRAINING, or to SLEEPING with no request pending. -/
theorem enterDraining_drains {s : State} (h4 : s.dust.heads.length = 4) : drains s (enterDraining s) := by
  let d : State := { powerOffIdle s with dust := { (powerOffIdle s).dust with
    sampling := .draining, wakeMs := none, sleepMs := none, warmMs := none } }
  have power : ∀ k : Fin 4, (headAt d k.val).power = ((headAt s k.val).power && samplePending s k.val) :=
    fun k => mapHeads_power (by omega)
  have on : ∀ k : Fin 4, (headAt d k.val).power = true ↔
      (headAt s k.val).power = true ∧ AdcInput.head k ∈ s.conv.requests := by
    intro k; rw [power, Bool.and_eq_true, samplePending_iff]
  have len : d.dust.heads.length = 4 := by simpa [d, powerOffIdle, mapHeads_length] using h4
  have e : enterDraining s = if allOff d then enterSleeping d else d := rfl
  rw [e]
  split
  · rename_i h
    have off := (allOff_iff len).mp h
    have off' : ∀ k : Fin 4, (headAt (enterSleeping d) k.val).power = false :=
      fun k => (mapHeads_power (by omega)).trans rfl
    refine ⟨rfl, rfl, fun k => ?_, fun _ => ⟨rfl, rfl⟩, fun k hk => ?_⟩
    · rw [off' k, ← off k]; exact on k
    · rw [off' k] at hk; cases hk
  · rename_i h
    refine ⟨rfl, rfl, on, fun a => absurd ((allOff_iff len).mpr a) h, fun _ _ => ⟨rfl, rfl⟩⟩

/-- R46: the continuous condition, found to hold. -/
theorem continuousTest_begun {s : State} (h4 : s.dust.heads.length = 4) (hr : s.running = true)
    (hc : continuousCondition s = true) : conditionBegun s (continuousTest s) := by
  unfold continuousTest
  simp only [hr, hc, Bool.not_true, Bool.false_eq_true, if_false, if_true]
  refine ⟨?_, fun h => ?_⟩
  · rintro (h | h) <;> simp only [h] <;> exact enterWarming_warms h4 0
  · simp only [h]
    exact ⟨_, enterWarming_warms h4 _, fun n hn => by simp [hn], fun hn => by simp [hn]⟩

/-- R46: the continuous condition, found to have ended in WARMING or CONTINUOUS. -/
theorem continuousTest_ended {s : State} (h4 : s.dust.heads.length = 4) (hr : s.running = true)
    (hc : continuousCondition s = false) (h : s.dust.sampling = .warming ∨ s.dust.sampling = .continuous) :
    drains s (continuousTest s) := by
  unfold continuousTest
  simp only [hr, hc, Bool.not_true, Bool.false_eq_true, if_false]
  rcases h with h | h <;> simp only [h] <;> exact enterDraining_drains h4

/-! ### The transmit queue -/

/-- R74: the frame handed over stands in the queue when there is room and it replaces none. -/
theorem mem_insertEntry (e x : TxEntry) (q : List TxEntry) : x ∈ insertEntry e q ↔ x = e ∨ x ∈ q := by
  induction q with
  | nil => simp [insertEntry]
  | cons a q ih =>
    unfold insertEntry; split
    · simp [ih, or_left_comm]
    · simp

/-- R74, R75: with the clash flag clear and room in the queue, the frame handed over is queued, and none is dropped. -/
theorem place_queues {f : Frame} {s : State} (hc : s.qli.clash = false) (hl : s.qli.queue.length < 6) :
    isQueued f (place f s).1 ∧ (place f s).2 = none := by
  unfold place isQueued
  simp only [hc, Bool.false_eq_true, if_false]
  split
  · rename_i hr
    refine ⟨?_, rfl⟩
    obtain ⟨e, he, hre⟩ := List.any_eq_true.mp hr
    refine ⟨replaceEntry f e, List.mem_map.mpr ⟨e, he, rfl⟩, ?_⟩
    simp [replaceEntry, hre]
  · simp only
    exact ⟨⟨freshEntry f, (mem_insertEntry _ _ _).mpr (.inl rfl), rfl⟩, trivial⟩

/-- R64: handed over with room, a frame is placed and no owner is told of a drop. -/
theorem enqueue_of_room {f : Frame} {s : State} (hc : s.qli.clash = false) (hl : s.qli.queue.length < 6) :
    enqueue f s = (place f s).1 := by
  unfold enqueue tellDrop; rw [(place_queues hc hl).2]

/-- R68: an own echo takes its entry out of the queue unless it was renewed, and the line is free. -/
@[simp] theorem echoLeaves_queue (s : State) : (echoLeaves s).qli.queue = queueHeard s := rfl

/-- R68: no frame is on the line after an own echo. -/
theorem queueHeard_offLine (s : State) : ∀ x ∈ queueHeard s, x.onLine = none := by
  intro x hx
  obtain ⟨y, _, rfl⟩ := List.mem_map.mp hx
  rfl

/-- R129: only the own claim in CLOSING has a CLOSE of its own, and that one is the CLOSE it keeps. -/
theorem isOwnClose_iff (f : Frame) (s : State) :
    isOwnClose f s = true ↔ s.claim.state = .closing ∧ ∃ r, s.claim.own = some r ∧ r.closeFrame = some f := by
  unfold isOwnClose; cases s.claim.own <;> simp

/-- R129: without a dropped CLOSE a beacon tick hands over none. -/
theorem resendClose_of_sent {s : State} (h : ∀ r, s.claim.own = some r → r.resend = false) : resendClose s = s := by
  unfold resendClose; split
  · rename_i r _ hr; simp [h r hr]
  · rfl

/-- R162: a jam standing at the entry to CLAIMING leaves the station HALTED. -/
theorem claimingFaults_jammed {s : State} {j : JamCause} (hc : s.cycle.state = .claiming) (hs : s.spout.state = .jammed)
    (hj : s.spout.jam = some j) : (claimingFaults s).cycle.state = .halted := by
  unfold claimingFaults
  simp only [hc, hs, hj, if_true]
  exact raiseHalt_state (.inl (by simp [hc]))

/-- R162: so does a travel fault without a jam. -/
theorem claimingFaults_faulted {s : State} (hc : s.cycle.state = .claiming) (hs : s.spout.state ≠ .jammed)
    (ht : s.travel.state = .faulted) : (claimingFaults s).cycle.state = .halted := by
  unfold claimingFaults
  simp only [hc, ht, if_true]
  split
  · rename_i h _; exact absurd h hs
  · exact raiseHalt_state (.inl (by simp [hc]))

/-! ### Limits -/

/-- R5: a limit reads as the stable value last reported. -/
@[simp] theorem limitActive_setLimit (l : Limit) (a : Bool) (p : Pins) : limitActive l (setLimit l a p) = a := by
  cases l <;> rfl

/-- R5: a report of the value a limit has leaves the inputs as they are. -/
theorem setLimit_of_same {l : Limit} {a : Bool} {p : Pins} (h : limitActive l p = a) : setLimit l a p = p := by
  cases l <;> subst h <;> rfl

end Sys2Proof.Machine
end

