-- ==== Sys2Proof/Tests/Slice0.lean ====
section
/-! SUPPORT. Tests: the WellFormed smoke, the worked examples of the spec (expected values copied from its tables), and one
witness for each statement with hypotheses: a state and operands that meet them, clause by clause. -/

namespace Sys2Proof.Tests

open Sys2Proof Sys2Proof.Machine

/-! ### Helpers -/

/-- Bytes from numbers. -/
def bytes (l : List Nat) : List Byte := l.map (BitVec.ofNat 8)

/-- A frame after its code byte: field length, fields. -/
def fields (fs : List Byte) : List Byte := BitVec.ofNat 8 fs.length :: fs

theorem fields_frames (fs : List Byte) (h : fs.length ≤ 62) : frames fs (fields fs) :=
  ⟨by omega, by simp [fields]; omega, [], by simp [fields]⟩

/-- The state a command leaves; the state itself where it stops. -/
def after (c : Instr) (s : State) : State :=
  match exec c s with
  | .next t => t
  | _ => s

/-- Status and reason in the buffer after a command. -/
def reply (c : Instr) (s : State) : Option (Status × Reason) := (after c s).link.buf.map (fun r => (r.status, r.reason))

/-- The RAIL section of section 8.11, with 6 stations. -/
def rail0 : RailCfg :=
  { n := 6, railMin := 0, railMax := 60000, half := 600, gap := 200, countsPerCm := 1, homeCm := 15900,
    homeDir := .low, homeTol := 10, homeSearch := 2000, creepZone := 150, arrivalTol := 5, stallTime := 500,
    clearance := 150 }

/-- The SCALE section of section 1.9. -/
def scale0 : ScaleCfg := { span := 107, zero := 410, zeroTol := 30, zeroLimit := 50, beltStall := 1000 }

/-- The FEED section of section 2.12. -/
def feed0 : FeedCfg :=
  { table := [0, 18, 36, 60, 88, 120, 160, 210], accMin := 8192, accMax := 60000, accStart := 40000, stepUp := 1024,
    stepDown := 1024, leak := -16, window := 20, band := 4, surgeGrams := 12000, surgeStep := 2048, surgeHold := 10,
    fMin := 200, fMax := 650, dribbleKg := 1500, spillKg := 300, dribbleIx := 2, settleTime := 8, warnIx := 4,
    highIx := 2 }

/-- The DUST section of section 3.10. -/
def dust0 : DustCfg :=
  { enabled := [true, true, true, true], warnOff := 900, warnOn := 1000, highOff := 1400, highOn := 1600,
    tripOn := 2800, sleepPeriod := 5000, wakeWindow := 200, radius := 1500 }

def lines0 : LinesCfg :=
  { filters := List.replicate 9 1, permits := [false, false, false, false, false, false, false, true],
    spoutTimeout := 100, attendance := 10, peerTimeout := 1500 }

def pattern0 : Pattern := { len := 2, steps := [true, false] }

def patterns0 : PatternsCfg := { horn := List.replicate 5 pattern0, lamp := List.replicate 5 pattern0 }

/-- Station 3 before RUN, every section accepted. -/
def ready : State :=
  { State.reset with
    station := 3
    pins := { State.reset.pins with p1 := true, p2 := true, p3 := true }
    cfg := { rail := some rail0, scale := some scale0, feed := some feed0, dust := some dust0, lines := some lines0,
             patterns := some patterns0 } }

/-- Station 3 after RUN, referenced at 20,000, idle. -/
def idle : State :=
  { ready with
    running := true
    scale := { Scale.reset with workingZero := some 410 }
    feed := { Feed.reset with setpoint := some 200 }
    dust := { Dust.reset with sampling := .waking, wakeMs := some 0 }
    travel := { Travel.reset with count := 20000, referenced := true } }

def header0 : PlanHeader :=
  { number := 52, vesselRef := 18000, trimLimit := 20000000, holdCount := 2, trancheCount := 3 }

def hold2 : Hold := { number := 2, offset := -1850, half := 600, lever := -100 }
def hold5 : Hold := { number := 5, offset := 2400, half := 650, lever := 200 }

def tranche (id hold target pred : Nat) (phase : BoardPhase) (seq settled : Nat) : Tranche :=
  { id := id, hold := hold, target := target, pred := pred, phase := phase, seq := seq, settled := settled }

def t4 : Tranche := tranche 4 2 60000 0 .vacant 0 0
def t5 : Tranche := tranche 5 2 40000 4 .vacant 0 0
def t7 : Tranche := tranche 7 5 50000 0 .vacant 0 0

/-- The plan of section 6.10. -/
def plan0 : Plan :=
  { state := .ready, header := some header0, holds := [hold2, hold5], tranches := [t4, t5, t7], check := some 32741,
    catchUp := none, cursor := 0 }

/-- `idle` with that plan READY. -/
def planned : State := { idle with plan := plan0 }

def record7 : ClaimRec :=
  { plan := 52, tranche := 7, hold := 5, seq := 1, withdrawMark := false, poured := true, endRequest := none,
    closedKg := none, closeFrame := none, resend := false }

/-- `planned`, pouring tranche 7 at hold 5. -/
def pouring : State :=
  { planned with
    plan := { plan0 with tranches := [t4, t5, tranche 7 5 50000 0 (.claimed 3 0) 1 0] }
    claim := { Claim.reset with state := .held, own := some record7 }
    spout := { state := .lowered, jam := none, ms := none }
    pins := { planned.pins with raised := false, lowered := true }
    cycle := { Cycle.reset with state := .pouring, attendMs := some 0 }
    feed := { Feed.reset with mode := .regulate, acc := 40000, setpoint := some 200, share := some 50000000 }
    scale := { Scale.reset with
      workingZero := some 410, pourOpen := true, beltMoving := true, beltMs := some 0, load := 2410, pulses := 40 }
    bills := { Bills.reset with
      reserved := true, identity := some { plan := 52, tranche := 7, hold := 5, seq := 1 }, openedAt := some 0 } }

/-- The claim of `pouring` before its pour: unpoured, in POSITIONING with the spout up. -/
def positioning : State :=
  { pouring with
    claim := { Claim.reset with state := .held, own := some { record7 with poured := false } }
    spout := { state := .raised, jam := none, ms := none }
    pins := planned.pins
    cycle := { Cycle.reset with state := .positioning }
    feed := { Feed.reset with setpoint := some 200 }
    scale := { Scale.reset with workingZero := some 410 }
    bills := { Bills.reset with reserved := true } }

def claim7 : Frame := .claim 52 7 1 5

/-- `planned` with a pending claim on tranche 7, its CLAIM queued. -/
def pending7 : State :=
  { planned with
    claim := { Claim.reset with state := .pending, own := some { record7 with poured := false } }
    cycle := { Cycle.reset with state := .claiming }
    qli := { Qli.reset with queue := [freshEntry claim7] }
    bills := { Bills.reset with reserved := true } }

/-- The same with the CLAIM on the line. -/
def onLine7 : State :=
  { pending7 with qli := { Qli.reset with queue := [{ freshEntry claim7 with onLine := some claim7 }] } }

/-- A move from 20,000 to hold 5's centre 20,400, at the second beacon tick of a hold. -/
def moving : State :=
  { positioning with
    travel := { Travel.reset with
      count := 20000, referenced := true, state := .moving, moveSpan := some { lo := 19395, hi := 21005 },
      targetHold := some 5, target := some 20400, approach := some .low, held := true, holdTicks := 1 } }

/-- HALTED by the host with the pour of `pouring` open. -/
def halted : State :=
  { pouring with
    cycle := { Cycle.reset with state := .halted, causes := [.hostHalt], haltCause := some .hostHalt }
    feed := { Feed.reset with setpoint := some 200, share := some 50000000 } }

/-- `planned` in automatic work, no peer in the way. -/
def selecting : State :=
  { planned with
    cycle := { planned.cycle with auto := true }, peers := List.replicate 8 { Peer.reset with presence := .retired } }

/-! ### WellFormed smoke (R189, R63) -/

theorem test_code_zero_is_no_unknown_command : wellFormed (.unknownCommand 0 []) = false := by decide
theorem test_named_code_is_no_unknown_command : wellFormed (.unknownCommand 29 []) = false := by decide
theorem test_code_thirty_is_unknown : wellFormed (.unknownCommand 30 []) = true := by decide
theorem test_overlong_payload_ill_formed :
    wellFormed (.frameHeard (.other { key := 0, payload := List.replicate 32 0, check := 0 })) = false := by decide
theorem test_longest_payload_well_formed :
    wellFormed (.frameHeard (.other { key := 0, payload := List.replicate 31 0, check := 0 })) = true := by decide
theorem test_ill_formed_faults : exec (.unknownCommand 1 []) idle = .fault .illFormed := rfl

/-! ### Worked tally (section 1.9) -/

theorem test_tally_interval_1 : tallyOf 0 2410 410 40 107 / 1024 = 8359 ∧ tallyOf 0 2410 410 40 107 % 1024 = 384 := by
  decide
theorem test_tally_interval_2 :
    tallyOf 384 2430 410 41 107 / 1024 = 8654 ∧ tallyOf 384 2430 410 41 107 % 1024 = 428 := by decide
theorem test_tally_interval_3 : tallyOf 428 390 410 12 107 / 1024 = 0 ∧ tallyOf 428 390 410 12 107 % 1024 = 428 := by
  decide
theorem test_tally_interval_4 : tallyOf 428 430 410 30 107 / 1024 = 63 ∧ tallyOf 428 430 410 30 107 % 1024 = 116 := by
  decide
theorem test_pour_final_kg : finalKg 17013 = 17 := by decide
/-- The close at the end of interval 3. -/
theorem test_interval_3_closes :
    (let s := { pouring with scale := { pouring.scale with
        load := 390, pulses := 12, fine := 428, openGrams := 17013, stray := 1250, closed := 40000000,
        total := 40018263, pendingClose := some .done } }
     let t := (after .intervalEnd s).scale
     (t.openGrams, t.stray, t.closed, t.total, t.pourOpen)) = (0, 1250, 40017013, 40018263, false) := by decide

/-! ### Worked window (section 2.12) -/

theorem test_window_figures : windowFigures feed0 600 = (166666, 177082, 156250) := by decide
theorem test_window_1_steps_up : windowStep feed0 600 150100 40000 = 41024 := by decide
theorem test_warn_clamps : clampAcc 8192 (min 60000 (8192 * 4 + 8191)) 41024 = 40959 := by decide
theorem test_set_feed_700_clamped :
    reply (.setFeed (fields (bytes [188, 2]))) idle = some (.doneClamped, .none) ∧
      (after (.setFeed (fields (bytes [188, 2]))) idle).feed.staged = some 650 := by decide
theorem test_gate_code : gateCode pouring = 88 := by decide

/-! ### Worked dust sequence (section 3.10) -/

/-- D2 after its first readings. -/
def d2 (readings : List Nat) : Head := readings.foldl (fun h r => readHead dust0 r h) .reset

theorem test_dust_reading_2 : (d2 [700, 1100]).avgLevel = .clear ∧ average (d2 [700, 1100]) = some 900 := by decide
theorem test_dust_reading_3 :
    (d2 [700, 1100, 1300]).avgLevel = .warn ∧ average (d2 [700, 1100, 1300]) = some 1033 := by decide
theorem test_dust_reading_5 :
    (d2 [700, 1100, 1300, 1500, 2900]).avgLevel = .warn ∧ (d2 [700, 1100, 1300, 1500, 2900]).latch = true := by decide
theorem test_dust_reading_6 : (d2 [700, 1100, 1300, 1500, 2900, 1000]).avgLevel = .high := by decide
theorem test_dust_reading_9 :
    (d2 [700, 1100, 1300, 1500, 2900, 1000, 500, 400, 300]).avgLevel = .clear ∧
      headLevel (d2 [700, 1100, 1300, 1500, 2900, 1000, 500, 400, 300]) = .trip := by decide

/-! ### The quay line -/

/-- Keys of section 4.10. -/
theorem test_line_keys :
    ((Frame.dust .warn 0 true 0).wire 5).key = 13 ∧ (claim7.wire 2).key = 18 ∧
      ((Frame.beacon .idle true false true false 0 0 0 0 0 0 0).wire 0).key = 48 := by decide
theorem test_frame_round_trip :
    Frame.ofPayload 6 (Frame.beacon .pouring true false true false 20000 19400 20600 52 32741 7 1).payload =
      some (.beacon .pouring true false true false 20000 19400 20600 52 32741 7 1) := by decide
/-- Queue order by class (section 4.6): a CLAIM joins before the BEACON that was queued first. -/
theorem test_queue_order :
    (enqueue claim7 { idle with qli := { Qli.reset with queue := [freshEntry (.note 52 7 true 1 5)] } }).qli.queue.map
      (fun e => e.frame.cls) = [2, 7] := by decide

/-! ### Worked table (section 5.9) -/

/-- Station 3 of the table, with the entries of stations 0 to 7. -/
def table : State :=
  { idle with peers :=
      [Peer.reset,
       { Peer.reset with presence := .live, referenced := true, pos := some 8000, span := some { lo := 7400, hi := 8600 } },
       { Peer.reset with
         presence := .silent, referenced := true, pos := some 14000, span := some { lo := 13400, hi := 16100 } },
       Peer.reset,
       { Peer.reset with presence := .live, span := some { lo := 0, hi := 1200 } },
       { Peer.reset with presence := .retired }, Peer.reset, Peer.reset] }

theorem test_blocking_table :
    (blocking table 0, blocking table 1, blocking table 2, blocking table 4, blocking table 5, blocking table 6) =
      (some { lo := 0, hi := 19200 }, some { lo := 7200, hi := 8800 }, some { lo := 13200, hi := 16300 },
       some { lo := 20800, hi := 65535 }, none, none) := by decide
theorem test_free_stretch : freeStretch table = some { lo := 19201, hi := 20799 } := by decide

/-! ### Worked plan check and merge (sections 6.10, 6.11) -/

theorem test_plan_check : planCheck header0 [hold2, hold5] [t4, t5, t7] = 32741 := by decide
theorem test_hatch_windows :
    (hatchWindow planned hold2, hatchWindow planned hold5) =
      (some { lo := 15700, hi := 16600 }, some { lo := 19900, hi := 20900 }) := by decide
/-- Steps 1 to 5. -/
theorem test_merge_to_step_5 :
    (let s1 := { planned with plan := { plan0 with tranches := mergedTranches 1 false (.claim 52 4 1 2) planned } }
     let s2 := { s1 with plan := { s1.plan with tranches := mergedTranches 1 false (.tally 52 4 1 12000) s1 } }
     let s3 := { s2 with plan := { s2.plan with tranches := mergedTranches 6 false (.claim 52 5 1 2) s2 } }
     let s4 := { s3 with plan := { s3.plan with tranches := mergedTranches 5 false (.claim 52 7 1 5) s3 } }
     mergedTranches 5 false (.tally 52 7 1 800) s4) =
      [tranche 4 2 60000 0 (.claimed 1 12000) 1 0, t5, tranche 7 5 50000 0 (.claimed 5 800) 1 0] := by decide
/-- The board after step 5. -/
def merged5 : State :=
  { planned with plan := { plan0 with
      tranches := [tranche 4 2 60000 0 (.claimed 1 12000) 1 0, t5, tranche 7 5 50000 0 (.claimed 5 800) 1 0] } }

theorem test_merge_step_6 :
    mergedTranches 2 false (.beacon .pouring true false true false 0 0 0 52 32741 7 1) merged5 =
      [tranche 4 2 60000 0 (.claimed 1 12000) 1 0, t5, tranche 7 5 50000 0 (.claimed 2 0) 1 800] := by decide +kernel
theorem test_merge_step_7 :
    mergedTranches 1 false (.beacon .idle true false false false 0 0 0 52 32741 0 0) merged5 =
      [tranche 4 2 60000 0 .vacant 1 12000, t5, tranche 7 5 50000 0 (.claimed 5 800) 1 0] := by decide +kernel
/-- Step 10, then the notes of steps 11 and 12. -/
theorem test_merge_close_and_notes :
    (let s := { planned with plan := { plan0 with
        tranches := [tranche 4 2 60000 0 (.claimed 0 30000) 2 12000, t5, tranche 7 5 50000 0 (.claimed 2 0) 1 800] } }
     let s1 := { s with plan := { s.plan with tranches := mergedTranches 0 false (.close 52 4 2 .done 0 60000) s } }
     let s2 := { s1 with plan := { s1.plan with tranches := mergedTranches 6 false (.note 52 4 false 1 12000) s1 } }
     mergedTranches 2 false (.note 52 7 false 0 0) s2) =
      [tranche 4 2 60000 0 .done 2 60000, t5, tranche 7 5 50000 0 (.claimed 2 0) 1 800] := by decide

/-! ### Worked move (section 8.11) -/

/-- The position of the worked move and its target 23,400. -/
def movingAt (x : Nat) (sp : Stretch) : State :=
  { idle with travel := { moving.travel with
      count := x, target := some 23400, moveSpan := some sp, held := false, holdTicks := 0, drive := .fast .high } }

theorem test_move_formula : moveFormula (movingAt 20000 { lo := 0, hi := 0 }) 20000 23400 = { lo := 19395, hi := 24005 } := by
  decide
theorem test_move_shrinks :
    ((after (.encoderEdge .up) (movingAt 20999 { lo := 20394, hi := 24005 })).travel.moveSpan) =
      some { lo := 20395, hi := 24005 } := by decide
theorem test_creep_zone :
    (let t := (after (.encoderEdge .up) (movingAt 23249 { lo := 22644, hi := 24005 })).travel
     (t.state, t.drive)) = (.creeping, .creep .high) := by decide
theorem test_overshoot_counts :
    (let s := movingAt 23405 { lo := 22795, hi := 24005 }
     let t := (after (.encoderEdge .up) { s with travel := { s.travel with state := .creeping, drive := .off } }).travel
     (t.overshoots, t.correcting)) = (1, true) := by decide

/-! ### Worked start-up (section 11.9) -/

theorem test_run_names_scale :
    (after (.run (fields [])) { State.reset with cfg := { State.reset.cfg with rail := some rail0 } }).link.buf =
      some { code := 2, status := .refused, reason := .missing, result := [2] } := by decide
theorem test_run_accepted : reply (.run (fields [])) ready = some (.done, .none) := by decide

/-! ### Witnesses: states and operands that meet the hypotheses of each statement, clause by clause -/

/-- One byte of fields, two, three. -/
def b1 (n : Nat) : List Byte := [BitVec.ofNat 8 n]

theorem witness_frames :
    frames [] (fields []) ∧ frames (b1 7) (fields (b1 7)) ∧ frames (bytes [1, 2]) (fields (bytes [1, 2])) ∧
      frames (bytes [1, 2, 3]) (fields (bytes [1, 2, 3])) ∧ frames (bytes [0]) (bytes [1, 0, 9, 9]) :=
  ⟨fields_frames _ (by decide), fields_frames _ (by decide), fields_frames _ (by decide), fields_frames _ (by decide),
    ⟨by decide, by decide, bytes [9, 9], by decide⟩⟩

theorem witness_CommandsTakenInOrder :
    (ready.pending = [] ∧ ready.running = false) ∧ (idle.pending = [] ∧ idle.running = true) := by decide

/-- One millisecond at the phase 249: a beacon tick, and the interval and pattern step that end with it. -/
theorem test_idle_step_250 :
    (match step { idle with base := 249 } with
      | .next t => (t.pending, t.base)
      | _ => ([], 0)) = ([.intervalEnd, .beaconTick, .patternStep], 250) := by decide

theorem witness_WellFormedCommandsComplete :
    wellFormed .intervalEnd = true ∧ wellFormed (.unknownCommand 0 []) = false := by decide

theorem witness_WrongLengthRefused :
    hostRow (.start (List.replicate 64 0)) = some (22, fitsLen 0, List.replicate 64 0) ∧
      64 < (List.replicate 64 (0 : Byte)).length + 1 ∧
      hostRow (.start []) = some (22, fitsLen 0, []) ∧ ¬ ∃ fs, frames fs [] :=
  ⟨rfl, by decide, rfl, fun ⟨fs, _, _, pad, h⟩ => by cases h⟩

theorem witness_NotRunningRefused :
    hostRow (.start (fields [])) = some (22, fitsLen 0, fields []) ∧ beforeRunToo (.start (fields [])) = false ∧
      frames [] (fields []) ∧ fitsLen 0 [] = true ∧ ready.running = false :=
  ⟨rfl, rfl, fields_frames _ (by decide), rfl, rfl⟩

theorem witness_FramesWithoutCommand :
    (List.replicate 63 (0 : Byte)).length + 1 ≤ 64 ∧ 64 < (List.replicate 64 (0 : Byte)).length + 1 ∧
      29 < (30 : Byte).toNat := by decide

theorem witness_EventAndStatusCommands :
    frames (bytes [1, 2, 3]) (fields (bytes [1, 2, 3])) ∧ (bytes [1, 2, 3]).length = 3 ∧ frames [] (fields []) ∧
      frames [1] (fields [1]) ∧ frames [11] (fields [11]) ∧ frames [12] (fields [12]) ∧ frames [0] (fields [0]) ∧
      attn { idle with link := { idle.link with flags := 4, enables := 6 } } = true ∧ attn idle = false :=
  ⟨fields_frames _ (by decide), by decide, fields_frames _ (by decide), fields_frames _ (by decide),
    fields_frames _ (by decide), fields_frames _ (by decide), fields_frames _ (by decide), by decide, by decide⟩

/-- Page 1 after RUN on station 3, at second 300, PLAN_READY (flag 18) set. -/
theorem test_status_page_1 :
    statusPage 1 { idle with seconds := 300, link := { idle.link with flags := BitVec.ofNat 24 262144 } } =
      some (bytes [1, 3, 63, 44, 1, 0, 0, 0, 0, 4]) := by decide

/-- The bytes of the RAIL section `rail0`. -/
def railBytes : List Byte :=
  le 1 6 ++ le 2 0 ++ le 2 60000 ++ le 2 600 ++ le 2 200 ++ le 1 1 ++ le 2 15900 ++ le 1 0 ++ le 2 10 ++ le 2 2000 ++
    le 2 150 ++ le 2 5 ++ le 2 500 ++ le 2 150

def scaleBytes : List Byte := le 2 107 ++ le 2 410 ++ le 2 30 ++ le 2 50 ++ le 2 1000

def feedBytes : List Byte :=
  bytes [0, 18, 36, 60, 88, 120, 160, 210] ++ le 2 8192 ++ le 2 60000 ++ le 2 40000 ++ le 2 1024 ++ le 2 1024 ++
    leSigned 2 (-16) ++ le 1 20 ++ le 1 4 ++ le 4 12000 ++ le 2 2048 ++ le 1 10 ++ le 2 200 ++ le 2 650 ++ le 2 1500 ++
    le 2 300 ++ le 1 2 ++ le 1 8 ++ le 1 4 ++ le 1 2

def dustBytes : List Byte :=
  le 1 15 ++ le 2 900 ++ le 2 1000 ++ le 2 1400 ++ le 2 1600 ++ le 2 2800 ++ le 2 5000 ++ le 2 200 ++ le 2 1500

def linesBytes : List Byte := bytes [1, 1, 1, 1, 1, 1, 1, 1, 1] ++ le 1 128 ++ le 1 100 ++ le 1 10 ++ le 2 1500

def patternsBytes : List Byte := (List.replicate 10 (le 1 2 ++ le 2 1)).flatten

theorem test_sections_parsed :
    parseRail railBytes = some rail0 ∧ parseScale scaleBytes = some scale0 ∧ parseFeed feedBytes = some feed0 ∧
      parseDust dustBytes = some dust0 ∧ parseLines linesBytes = some lines0 := by decide

theorem witness_ConfigSectionsTaken :
    (idle.running = true ∧ fitsSection (1 :: railBytes) = true) ∧ ready.running = false ∧
      ((0 : Byte).toNat = 0 ∧ 7 ≤ (7 : Byte).toNat) ∧
      (railBytes.length = 25 ∧ parseRail railBytes = some rail0 ∧ parseRail (List.replicate 25 0) = none) ∧
      (scaleBytes.length = 10 ∧ parseScale scaleBytes = some scale0 ∧ parseScale (List.replicate 10 0) = none) ∧
      (feedBytes.length = 41 ∧ parseFeed feedBytes = some feed0 ∧ parseFeed (List.replicate 41 0) = none ∧
        ready.feed.mode = .shut) ∧
      (dustBytes.length = 17 ∧ parseDust dustBytes = some dust0 ∧ parseDust (List.replicate 17 0) = none) ∧
      (linesBytes.length = 14 ∧ parseLines linesBytes = some lines0 ∧ parseLines (List.replicate 14 0) = none) ∧
      (patternsBytes.length = 30 ∧ (parsePatterns patternsBytes).isSome = true ∧
        parsePatterns (List.replicate 30 0) = none) := by decide

theorem witness_ConfigRanges :
    parseScale scaleBytes = some scale0 ∧ parseDust dustBytes = some dust0 ∧ parseRail railBytes = some rail0 ∧
      parseFeed feedBytes = some feed0 ∧ parseLines linesBytes = some lines0 ∧
      (parsePatterns patternsBytes).map (fun c => (c.horn.length, c.lamp.length)) = some (5, 5) ∧
      (15 : Byte).toNat % 16 = (0xFF : Byte).toNat % 16 := by decide

theorem witness_ResetValues :
    (State.reset.pins.raised = true ∧ State.reset.pins.lowered = false) ∧
      (let p := { State.reset.pins with raised := false, lowered := true }
       p.raised = false ∧ p.lowered = true) ∧
      { State.reset.pins with raised := false }.raised = { State.reset.pins with raised := false }.lowered := by decide

theorem witness_RunJudged :
    idle.running = true ∧ State.reset.running = false ∧ (accepted State.reset)[0]? = some false ∧
      (let s := { ready with cfg := { ready.cfg with patterns := none } }
       (accepted s)[5]? = some false ∧ ∀ j, j < 5 → (accepted s)[j]? = some true) ∧
      (ready.running = false ∧ (∀ b ∈ accepted ready, b = true) ∧ ready.station < (rail ready).n) ∧
      (rail { ready with station := 6 }).n ≤ { ready with station := 6 }.station := by decide

/-- The clauses of RunJudged that need the drive law: over a raised spout and over a lowered one. -/
theorem witness_RunJudged_law :
    (DriveLaw ready ∧ ready.qli.queue = [] ∧ ready.qli.clash = false) ∧
      (let s := { ready with spout := { state := .lowered, jam := none, ms := none } }
       DriveLaw s ∧ s.spout.state = .lowered) := by
  unfold DriveLaw; decide

/-- What RUN can find: a jam of each cause, the clash flag, a LIVE peer at its timeout and one short of it. -/
theorem witness_RunJudged_found :
    (∀ j ∈ [JamCause.timeout, .drift], DriveLaw { ready with spout := { state := .jammed, jam := some j, ms := none } }) ∧
      (DriveLaw { ready with qli := { Qli.reset with clash := true } } ∧ ready.spout.state = .raised) ∧
      (ready.station ≠ 1 ∧ (peer { ready with peers := ready.peers.set 1 { Peer.reset with
          presence := .live, age := some 1500 } } 1).age = some 1500 ∧ peerTimeout ready ≤ 1500 ∧
        ¬ peerTimeout ready ≤ 1499) ∧
      (ready.dust.sampling = .sleeping ∧ headEnabled ready 0 = true ∧
        (after (.run (fields [])) ready).dust.exposure = .clear ∧ ready.peers.length = 8) := by
  unfold DriveLaw; decide

/-- RUN with a drifted spout and the clash flag: both causes stand, the first is reported, the heads warm up. -/
theorem test_run_finds_jam :
    (let t := after (.run (fields [])) { ready with
        spout := { state := .jammed, jam := some .drift, ms := none }, qli := { Qli.reset with clash := true } }
     (t.cycle.state, t.cycle.haltCause, t.cycle.causes.contains .stationClash, t.dust.sampling)) =
      (.halted, some .spoutDrift, true, .warming) := by decide

theorem witness_IntervalTally :
    idle.running = true ∧
      (let s := { idle with scale := { idle.scale with load := 4095, pulses := 255, fine := 1023 } }
       s.scale.load ≤ 4095 ∧ s.scale.pulses ≤ 255 ∧ (scaleCfg s).span ≤ 65535 ∧ s.scale.fine ≤ 1023) ∧
      { idle with scale := { idle.scale with load := 410 } }.scale.load ≤ workingZero idle ∧
      (idle.scale.pulses = 0 ∧ idle.scale.fine ≤ 1023) := by decide

/-- The snapshot record of an interval of `pouring`: 8,359 g (section 1.9) beyond the 1,000 g poured before. -/
theorem test_snapshot_record :
    ((after .intervalEnd { pouring with scale := { pouring.scale with openGrams := 1000, total := 1000 } }).scale.snapshot.map
      (fun r => [r.grams, r.openGrams, r.stray, r.total, r.gate, r.mode.code, r.pos])) =
      some [8359, 9359, 0, 9359, 88, 1, 20000] := by decide

theorem witness_IntervalCredited :
    (idle.running = true ∧ idle.scale.pourOpen = false ∧ idle.scale.pendingOpen = false) ∧
      (pouring.running = true ∧ pouring.scale.pourOpen = true ∧ pouring.scale.pendingClose = none) ∧
      (let s := { idle with scale := { idle.scale with saturated := true, overrange := true } }
       s.scale.saturated = true ∧ (intervalFlags s).onset s.scale.prevFlags = true) ∧
      (let s := { pouring with scale := { pouring.scale with openGrams := 2 ^ 40 - 1 } }
       s.scale.pourOpen = true ∧ 2 ^ 40 - 1 < s.scale.openGrams + intervalGrams s) ∧
      (let s := { pouring with scale := { pouring.scale with pendingClose := some .done, closed := 2 ^ 48 - 1 } }
       s.scale.pourOpen = true ∧ s.scale.pendingClose = some .done ∧ s.bills.identity ≠ none ∧
         2 ^ 48 - 1 < s.scale.closed + min (2 ^ 40 - 1) (s.scale.openGrams + intervalGrams s)) ∧
      (pouring.claim.state = .held ∧ pouring.claim.own = some record7 ∧ findHold pouring record7.hold = some hold5 ∧
        pouring.plan.header = some header0 ∧ (pouring.plan.holds.map (fun y => y.number)).Nodup ∧
        (∀ y ∈ pouring.plan.holds, y.lever.natAbs ≤ 2000) ∧ pouring.claim.trim = false ∧
        (pouring.plan.tranches.map (fun u => u.settled + 8)).sum ≤ 2 ^ 36 ∧
        { pouring with claim := { pouring.claim with trim := true } }.claim.trim = true) := by decide

/-- The TRIM cause at a limit of 1,599 with 8 kg at lever 200, and not at 1,600. -/
theorem test_trim_set_above_limit :
    [1599, 1600].map (fun limit => (after .intervalEnd { pouring with
      plan := { pouring.plan with header := some { header0 with trimLimit := limit } } }).claim.trim) = [true, false] := by
  decide

theorem witness_WindowEvaluated :
    (let s := { pouring with feed := { pouring.feed with count := 19 } }
     s.running = true ∧ s.cfg.feed = some feed0 ∧ s.feed.mode ≠ .shut ∧ s.scale.pourOpen = true ∧
       feed0.window ≤ s.feed.count + 1 ∧ s.cycle.state = .pouring ∧ s.scale.pendingClose = none) ∧
      pouring.feed.count + 1 < feed0.window ∧
      (let s := { pouring with scale := { pouring.scale with pulses := 60 } }
       feed0.surgeGrams < intervalGrams s ∧ s.feed.holdoff = 0) ∧
      (let s := { pouring with scale := { pouring.scale with openGrams := 49700000 } }
       s.feed.share = some 50000000 ∧ 50000000 ≤ s.scale.openGrams + feed0.spillKg * 1000) ∧
      (let s := { pouring with scale := { pouring.scale with openGrams := 48500000 } }
       50000000 ≤ s.scale.openGrams + feed0.dribbleKg * 1000 ∧ s.feed.mode = .regulate ∧
         s.scale.openGrams + intervalGrams s + feed0.spillKg * 1000 < 50000000) := by decide

/-- The cut of section 2.12: A from 40,959 to 38,911, hold-off 10, at an interval above 12,000 g. -/
theorem test_surge_cut :
    (let t := (after .intervalEnd { pouring with
        feed := { pouring.feed with acc := 40959 }, scale := { pouring.scale with pulses := 60 } }).feed
     (t.acc, t.holdoff, t.surge)) = (38911, 10, true) := by decide
/-- The dribble of section 2.12 under WARN: A to 24,575. -/
theorem test_dribble_clamps :
    (let t := (after .intervalEnd { pouring with
        dust := { pouring.dust with exposure := .warn }, feed := { pouring.feed with acc := 39935 },
        scale := { pouring.scale with openGrams := 48500000 } }).feed
     (t.acc, t.mode)) = (24575, .dribble) := by decide

/-- A calibration under way. -/
def calibrating (pulses count sum load : Nat) : State :=
  { idle with scale := { idle.scale with
      calRunning := true, pulses := pulses, calCount := count, calSum := sum, load := load } }

theorem witness_CalibrationEnds :
    ((calibrating 1 39 15990 410).running = true ∧ (calibrating 1 39 15990 410).scale.calRunning = true ∧
        (calibrating 1 39 15990 410).scale.calSkip = false ∧ (calibrating 1 39 15990 410).scale.pulses ≠ 0 ∧
        39 ≤ (calibrating 1 39 15990 410).scale.calCount ∧ (15990 + 410 + 20) / 40 - scale0.zero ≤ scale0.zeroLimit ∧
        scale0.zero - (15990 + 410 + 20) / 40 ≤ scale0.zeroLimit) ∧
      (scale0.zeroLimit < (39 * 461 + 461 + 20) / 40 - scale0.zero ∧
        (calibrating 1 39 (39 * 461) 461).scale.calCount = 39) ∧
      (calibrating 0 0 0 0).scale.pulses = 0 ∧
      ((calibrating 1 38 0 0).scale.pulses ≠ 0 ∧ (calibrating 1 38 0 0).scale.calCount < 39) := by decide

/-- The interval under way at the acceptance, without a pulse: the calibration goes on. -/
theorem witness_CalibrationEnds_skip :
    (let s := { calibrating 0 0 0 0 with scale := { (calibrating 0 0 0 0).scale with calSkip := true } }
     s.running = true ∧ s.scale.calRunning = true ∧ s.scale.calSkip = true ∧
       (after .intervalEnd s).scale.calRunning = true) := by decide

theorem witness_PourOpens :
    (let s := { idle with scale := { idle.scale with pendingOpen := true } }
     s.running = true ∧ s.scale.pendingOpen = true ∧ s.scale.pourOpen = false) := by decide

/-- `positioning` with the spout down, `kg` already settled on tranche 7 and the opening pending. -/
def opening (kg : Nat) : State :=
  { positioning with
    plan := { plan0 with tranches := [t4, t5, tranche 7 5 50000 0 (.claimed 3 0) 1 kg] }
    spout := { state := .lowered, jam := none, ms := none }
    pins := pouring.pins
    scale := { positioning.scale with pendingOpen := true, beltMoving := true } }

theorem witness_PourOpens_enters :
    ((opening 0).cycle.state = .positioning ∧ (opening 0).feed.mode = .shut ∧ pauseStands (opening 0) = false ∧
        pauseStands { opening 0 with pins := { pouring.pins with p1 := false } } = true ∧
        (opening 0).cfg.feed = some feed0 ∧ (opening 0).claim.own = some { record7 with poured := false } ∧
        findTranche (opening 0) 7 = some (tranche 7 5 50000 0 (.claimed 3 0) 1 0)) ∧
      ((50000 - 49700) * 1000 ≤ 0 + feed0.spillKg * 1000 ∧ 0 + feed0.spillKg * 1000 < (50000 - 48500) * 1000 ∧
        (50000 - 48500) * 1000 ≤ 0 + feed0.dribbleKg * 1000 ∧ 0 + feed0.dribbleKg * 1000 < 50000 * 1000) := by decide

/-- The openings at 0, 48,500 and 49,700 kg settled: REGULATE from A_start, DRIBBLE under its ceiling, SETTLING at once. -/
theorem test_pour_opens :
    [0, 48500, 49700].map (fun kg => (let t := after .intervalEnd (opening kg)
      (t.cycle.state, t.feed.mode, t.feed.acc, t.feed.share))) =
      [(.pouring, .regulate, 40000, some 50000000), (.pouring, .dribble, 24575, some 1500000),
       (.settling, .shut, 40000, some 300000)] := by decide

theorem witness_PourCloses :
    (let s := { pouring with scale := { pouring.scale with pendingClose := some .done } }
     s.running = true ∧ s.scale.pourOpen = true ∧ s.scale.pendingClose = some .done ∧
       s.bills.identity = some { plan := 52, tranche := 7, hold := 5, seq := 1 }) := by decide

/-- The claim of `pouring` at its close: an end request kept, the target reached, missed, a pour withdrawn or yielded. -/
theorem witness_PourCloses_claim :
    (pouring.claim.state = .held ∧ pouring.claim.own = some record7 ∧ record7.poured = true ∧
        findTranche pouring 7 = some (tranche 7 5 50000 0 (.claimed 3 0) 1 0) ∧ pouring.qli.clash = false ∧
        pouring.qli.queue.length ≤ 3) ∧
      ({ record7 with endRequest := some .released }.endRequest = some .released ∧ record7.endRequest = none) ∧
      (intervalGrams pouring = 8359 ∧ (tranche 7 5 50000 0 (.claimed 3 0) 1 49992).target ≤ 49992 + (8359 + 500) / 1000 ∧
        49991 + (8359 + 500) / 1000 < 50000) ∧
      (pouring.plan.header = some header0 ∧ header0.number = 52 ∧ header0.number ≠ 51) := by decide

/-- A surge at the close, which exceeds 12,000 g; the marks kept by the pour record; a TRIM cause that the close's interval
end sets over a limit of 0; the belt moving. -/
theorem witness_PourCloses_marks :
    (pouring.cfg.feed = some feed0 ∧ pouring.feed.mode ≠ .shut ∧ pouring.feed.holdoff = 0 ∧
        feed0.surgeGrams < intervalGrams { pouring with scale := { pouring.scale with load := 4000 } } ∧
        ¬ feed0.surgeGrams < intervalGrams pouring) ∧
      (nearTripStands pouring = false ∧ pouring.claim.trim = false ∧ pouring.scale.beltMoving = true ∧
        { pouring.claim with state := .closing }.state ≠ .held) ∧
      (pouring.claim.state = .held ∧ pouring.claim.own = some record7 ∧ findHold pouring record7.hold = some hold5 ∧
        pouring.plan.header = some header0) := by decide

/-- The marks of the bill of a pour closed after a surge, with OVERRANGE in its last interval and the TRIM cause set there. -/
theorem test_bill_marks :
    (after .intervalEnd { pouring with
        scale := { pouring.scale with load := 4095, overrange := true, pendingClose := some .withdrawn }
        plan := { pouring.plan with header := some { header0 with trimLimit := 0 } }
        cycle := { pouring.cycle with dustPaused := true, lastHalt := some .hostHalt } }).bills.stored.map
      (fun b => (b.surge, b.dustPaused, b.trimPaused, b.lastHalt, b.quality.overrange, b.quality.underzero)) =
      [(true, true, true, some .hostHalt, true, false)] := by decide

/-- The CLOSE of a pour of 8,359 g closed as DONE short of its target: RELEASED with 8 kg. -/
theorem test_close_frame :
    (let t := after .intervalEnd { pouring with scale := { pouring.scale with pendingClose := some .done } }
     (t.claim.state, t.claim.own.bind (fun c => c.closeFrame))) =
      (.closing, some (.close 52 7 1 .released 3 8)) := by decide

theorem witness_ScaleCommands :
    (idle.running = true ∧ idle.cycle.state = .idle ∧ idle.cycle.auto = false ∧ idle.scale.pourOpen = false ∧
        idle.scale.pendingOpen = false ∧ idle.scale.pendingClose = none ∧ idle.scale.calRunning = false ∧
        idle.scale.snapshot = none) ∧
      pouring.cycle.state ≠ .idle ∧ (after .intervalEnd idle).scale.snapshot.isSome = true := by decide

theorem witness_ConversionsDelivered :
    (let s := { idle with conv := { requests := [.load, .head 1], busy := some .load } }
     s.conv.busy = some .load) ∧
      idle.conv.busy = none ∧
      (let s := { idle with conv := { requests := [.head 3], busy := some (.head 3) } }
       s.conv.busy = some (.head 3) ∧ s.cfg.dust = some dust0 ∧ (3 : Fin 4).val < s.dust.heads.length ∧
         (headAt s 3).latch = false ∧ (dust0.tripOn : Int) ≤ 2800 ∧ dust0.tripOn ≤ 4095 ∧ headEnabled s 3 = true ∧
         (headAt (after (.conversionEnd 2800) s) 3).latch = true ∧
         stationLevel (after (.conversionEnd 2800) s) ≠ stationLevel s) ∧
      (let s := { idle with
         conv := { requests := [.head 3], busy := some (.head 3) },
         dust := { idle.dust with heads := [.reset, .reset, .reset, d2 [8, 8]] } }
       (headAt s 3).fault = false ∧ (headAt (after (.conversionEnd 8) s) 3).fault = true) ∧
      (let s := { pending7 with conv := { requests := [.head 3], busy := some (.head 3) } }
       s.running = true ∧ s.claim.state = .pending ∧ claimPlace s = .queued ∧ s.cycle.state ≠ .halted ∧
         s.dust.exposure ≠ .trip ∧ (headAt (after (.conversionEnd 2800) s) 3).latch = true) := by decide

/-- A reading that trips while the station idles: HALTED with OWN_TRIP, both patterns from step 0. -/
theorem test_trip_halts_idle :
    (let t := after (.conversionEnd 2800) { idle with
        conv := { requests := [.head 3], busy := some (.head 3) }, dust := { idle.dust with hornPos := 1 } }
     (t.dust.exposure, t.cycle.state, t.cycle.causes, t.dust.hornPos)) = (.trip, .halted, [.ownTrip], 0) := by decide

theorem witness_BeltPulsesAndStall :
    (idle.running = true ∧ idle.pins.belt = false ∧ idle.scale.pulses < 255) ∧
      { idle with pins := { idle.pins with belt := true } }.pins.belt = true ∧
      { idle with scale := { idle.scale with pulses := 255 } }.scale.pulses = 255 ∧ ready.running = false ∧
      idle.scale.beltMs = none ∧
      (let s := { idle with scale := { idle.scale with beltMs := some 1000 } }
       reached s.scale.beltMs (scaleCfg s).beltStall = true ∧ gateCode s = 0) ∧
      999 < (scaleCfg idle).beltStall ∧
      (let s := { pouring with scale := { pouring.scale with beltMs := some 1000 } }
       reached s.scale.beltMs (scaleCfg s).beltStall = true ∧ gateCode s ≠ 0) := by decide

/-- Of two reports of an active belt input only the first is a change (R5). -/
theorem test_belt_change_counts_once :
    (let s := after (.filteredBeltPulse true) idle
     (s.scale.pulses, (after (.filteredBeltPulse true) s).scale.pulses)) = (1, 1) := by decide

theorem witness_SetpointStaged :
    (bytes [188, 2]).length = 2 ∧ idle.running = true ∧ idle.cfg.feed = some feed0 ∧ feed0.fMin ≤ feed0.fMax ∧
      number (bytes [199, 0]) < feed0.fMin ∧ feed0.fMin ≤ number (bytes [200, 0]) ∧
      number (bytes [138, 2]) ≤ feed0.fMax ∧ feed0.fMax < number (bytes [139, 2]) := by decide

theorem witness_GateCodeRule :
    pouring.cfg.feed = some feed0 ∧ pouring.feed.mode ≠ .shut ∧ pouring.cycle.state = .pouring ∧
      pouring.spout.state = .lowered ∧ pouring.claim.state = .held ∧ inWindow pouring = true ∧
      permit pouring = true ∧ pouring.dust.exposure = .clear ∧ gateCode pouring ≠ 0 := by decide

theorem witness_AverageLevelTable :
    dust0.warnOff < dust0.warnOn ∧ dust0.warnOn ≤ dust0.highOff ∧ dust0.highOff < dust0.highOn ∧
      ((d2 []).avgLevel = .clear ∧ (d2 [1600]).avgLevel = .high ∧ (d2 [1599]).avgLevel = .warn ∧
        (d2 [999]).avgLevel = .clear) ∧
      ((d2 [1000]).avgLevel = .warn ∧ (d2 [1000, 2200]).avgLevel = .high ∧ (d2 [1000, 798]).avgLevel = .clear ∧
        (d2 [1000, 800]).avgLevel = .warn) ∧
      ((d2 [1600, 198]).avgLevel = .clear ∧ (d2 [1600, 200]).avgLevel = .warn ∧ (d2 [1600, 1200]).avgLevel = .high) ∧
      dust0.tripOn ≤ 2800 := by decide

/-- The fault flag at the edges of the band, 8 and 9, 4,087 and 4,088, and its clearing by the third reading in band; the
history keeps the last four; the flags of a reading. -/
theorem test_readings_processed :
    ([[8, 8, 8], [8, 8, 9], [4088, 4088, 4088], [4088, 4088, 4087], [8, 8, 8, 9, 9], [8, 8, 8, 9, 9, 9]].map
        (fun l => ((d2 l).fault, (d2 l).faultCount))) =
        [(true, 0), (false, 0), (true, 0), (false, 0), (true, 2), (false, 0)] ∧
      ((d2 [1, 2, 3, 4]).history.length = 4 ∧ (d2 [1, 2, 3, 4, 5]).history = [2, 3, 4, 5]) ∧
      (let s := { idle with dust := { idle.dust with heads := [.reset, d2 [8, 8], .reset, .reset] } }
       1 < s.dust.heads.length ∧ (headAt s 1).fault = false ∧ (readHead dust0 8 (headAt s 1)).fault = true ∧
         (readHead dust0 9 (headAt s 1)).fault = false) := by decide

/-- Head D1 latched with an average below warn_off, D2 with one at it. -/
def latched : State :=
  { idle with dust := { idle.dust with heads :=
      [{ Head.reset with latch := true, history := [899] }, { Head.reset with latch := true, history := [900] },
       .reset, .reset] } }

theorem witness_DustAcknowledged :
    latched.running = true ∧ latched.cfg.dust = some dust0 ∧ headEnabled latched 0 = true ∧
      average (headAt latched 0) = some 899 ∧ average (headAt latched 1) = some 900 ∧
      (let s := { idle with cfg := { idle.cfg with dust := some { dust0 with enabled := [false, true, true, true] } } }
       headEnabled s 0 = false) := by decide

/-- Head D1's latch clears and its level falls, D2 keeps its latch; the trip count changes. -/
theorem witness_DustAcknowledged_heads :
    ((headAt latched 0).latch = true ∧ 899 < dust0.warnOff ∧ dust0.warnOff < dust0.warnOn ∧
        dust0.warnOn ≤ dust0.highOff ∧ dust0.highOff < dust0.highOn ∧ dust0.warnOff ≤ 900 ∧ headEnabled latched 1 = true ∧
        (headAt latched 2).latch = false) ∧
      (tripCount latched = 2 ∧ tripCount (after (.ackDust (fields [])) latched) = 1 ∧ latched.qli.clash = false ∧
        latched.qli.queue.length ≤ 4) := by decide

/-- `idle` at the end of its wake window. -/
def woken : State := { idle with dust := { idle.dust with wakeMs := some 200 } }

theorem witness_SamplingTimers :
    (woken.dust.sampling = .waking ∧ reached woken.dust.wakeMs (wakeWindow woken) = true ∧
        ∃ k : Fin 4, headEnabled woken k.val = true) ∧
      (let s := { woken with cfg := { woken.cfg with dust := some { dust0 with enabled := List.replicate 4 false } } }
       (∀ k : Fin 4, headEnabled s k.val = false) ∧ continuousCondition s = false ∧
         reached s.dust.wakeMs (wakeWindow s) = true) ∧
      reached idle.dust.wakeMs (wakeWindow idle) = false ∧
      (let s := { idle with dust := { idle.dust with sampling := .sleeping, wakeMs := none, sleepMs := some 5000 } }
       s.dust.sampling = .sleeping ∧ reached s.dust.sleepMs (sleepPeriod s) = true ∧ s.dust.heads[3]? = some .reset ∧
         reached (some 4999) (sleepPeriod s) = false) ∧
      (let s := { idle with dust := { idle.dust with sampling := .warming, wakeMs := none, warmMs := some 200 } }
       s.running = true ∧ s.dust.sampling = .warming ∧ reached s.dust.warmMs (wakeWindow s) = true ∧
         s.scale.pourOpen = false) := by decide

/-- `idle` with head D3's conversion under way, its sampling and exposure as given. -/
def reading (smp : Sampling) (e : Exposure) : State :=
  { idle with
    conv := { requests := [.head 2], busy := some (.head 2) }
    dust := { idle.dust with
      sampling := smp, wakeMs := none, exposure := e, heads := List.replicate 4 { Head.reset with power := true } } }

/-- `selecting` asleep; WITHDRAWING with the spout at its raised limit. -/
def asleep : State := { selecting with dust := { selecting.dust with sampling := .sleeping, wakeMs := none } }

def withdrawing : State :=
  { idle with
    cycle := { idle.cycle with state := .withdrawing }, dust := { idle.dust with sampling := .continuous, wakeMs := none }
    spout := { state := .raising, jam := none, ms := some 5 }, pins := { idle.pins with raised := false } }

theorem witness_SamplingTimers_condition :
    ([Sampling.sleeping, .waking, .draining].map (fun m =>
        (after (.conversionEnd 1000) (reading m .clear)).dust.exposure) = [.warn, .warn, .warn] ∧
      (reading .sleeping .clear).cfg.dust ≠ none ∧ (reading .sleeping .clear).dust.heads.length = 4 ∧
      (reading .sleeping .clear).cycle.state = .idle ∧ (reading .sleeping .clear).conv.busy = some (.head 2)) ∧
      ([Sampling.warming, .continuous].map (fun m =>
        (after (.conversionEnd 999) (reading m .warn)).dust.exposure) = [.clear, .clear] ∧
      (after (.conversionEnd 1000) (reading .continuous .high)).dust.exposure = .warn) ∧
      ((after (.conversionEnd 999) (reading .waking .clear)).dust.exposure = .clear ∧
        (∀ j : Fin 4, AdcInput.head j ∉ (after (.conversionEnd 999) (reading .waking .clear)).conv.requests) ∧
        headEnabled (reading .waking .clear) 1 = true ∧ (reading .draining .clear).dust.warmMs = none ∧
        (reading .draining .clear).dust.sleepMs = none) ∧
      (asleep.running = true ∧ asleep.cycle.state = .idle ∧ asleep.dust.exposure = .clear ∧
        asleep.dust.heads.length = 4 ∧ (after .beaconTick asleep).cycle.state = .claiming) ∧
      (withdrawing.running = true ∧ withdrawing.cycle.state = .withdrawing ∧ withdrawing.spout.state = .raising ∧
        withdrawing.pins.raised = false ∧ pourBegun withdrawing = false ∧ withdrawing.claim.state = .none ∧
        withdrawing.dust.exposure = .clear ∧ withdrawing.dust.heads.length = 4 ∧
        withdrawing.dust.sampling = .continuous) := by decide

/-- A reading at warn_on wakes a sleeping station for continuous mode; the last reading of a sample lets it sleep; CONTINUOUS
drains while two heads wait, and sleeps when none does. -/
theorem test_sampling_moves :
    ([after (.conversionEnd 1000) (reading .sleeping .clear), after (.conversionEnd 999) (reading .waking .clear),
        after (.conversionEnd 999) { reading .continuous .warn with
          conv := { requests := [.head 1, .head 2, .head 3], busy := some (.head 2) } },
        after (.limitSwitchChange .raised true) withdrawing].map
      (fun t => (t.dust.sampling, t.dust.warmMs, t.dust.sleepMs, t.dust.heads.map (fun h => h.power)))) =
      [(.warming, some 0, none, [true, true, true, true]), (.sleeping, none, some 0, [false, false, false, false]),
       (.draining, none, none, [false, true, false, true]), (.sleeping, none, some 0, [false, false, false, false])] := by
  decide

theorem witness_PatternAndSecondTicks :
    (idle.running = true ∧ idle.cfg.patterns = some patterns0) ∧ ready.running = false ∧
      (pouring.claim.state = .held ∧ pouring.claim.own = some record7 ∧ pouring.scale.pourOpen = true ∧
        pouring.qli.clash = false ∧ pouring.qli.queue.length < 5) ∧
      (idle.claim.state ≠ .held ∧ idle.dust.repeatCount = 0) ∧
      (let s := { idle with dust := { idle.dust with repeatCount := 1, clearRepeats := 1 } }
       1 ≤ s.dust.repeatCount ∧ repeatDue s = true ∧ s.qli.clash = false ∧ s.qli.queue.length < 5) := by decide

/-- The outputs with a pattern of one step on and one off: on and off before and after a pattern step; the horn silenced;
both off before RUN. -/
theorem test_horn_and_lamp :
    (let silenced : State := { idle with dust := { idle.dust with silenced := true } }
     [idle, after .patternStep idle, after .patternStep (after .patternStep idle), silenced, ready].map
       (fun s => (hornOn s, lampOn s))) =
      [(true, true), (false, false), (true, true), (false, true), (false, false)] := by decide

/-- The DUST frame of two latched heads. -/
theorem test_dust_frame : dustFrame latched = .dust .trip 2 true 20000 := by decide

/-- `s` with the receiver at the idle line. -/
def heard (s : State) : State := { s with qli := { s.qli with rx := .lineIdle } }

theorem witness_LineWindowAndErrors :
    idle.qli.rx = .hunting ∧ (heard idle).qli.rx = .lineIdle ∧
      { idle with qli := { Qli.reset with winErrors := 6 } }.qli.winErrors + 1 < 8 ∧
      { idle with qli := { Qli.reset with degraded := true } }.qli.degraded = true ∧
      (let s := { pending7 with qli := { pending7.qli with winErrors := 7, rx := .inFrame } }
       s.qli.rx = .inFrame ∧ s.qli.degraded = false ∧ 7 ≤ s.qli.winErrors ∧ s.claim.state = .pending ∧
         claimPlace s = .queued) ∧
      idle.claim.state ≠ .pending ∧ idle.travel.state ≠ .waiting ∧ idle.qli.lineMs < 1000 ∧
      1000 ≤ { idle with qli := { Qli.reset with lineMs := 1000, degraded := true } }.qli.lineMs := by decide

/-- `positioning` WAITING to move to 20,400, no peer in its way. -/
def waiting : State :=
  { positioning with
    travel := { moving.travel with state := .waiting, moveSpan := none, held := false, holdTicks := 0 }
    peers := List.replicate 8 { Peer.reset with presence := .retired } }

/-- DEGRADED clears under a WAITING move whose check then succeeds. -/
theorem witness_LineWindowAndErrors_waiting :
    (let s := { waiting with qli := { Qli.reset with lineMs := 1000, degraded := true } }
     1000 ≤ s.qli.lineMs ∧ s.qli.degraded = true ∧ s.qli.winErrors = 0 ∧ s.travel.state = .waiting ∧
       s.travel.target = some 20400 ∧ s.qli.clash = false ∧ s.qli.queue.length ≤ 5 ∧ s.cfg.rail ≠ none ∧
       s.running = true ∧ (after .lineWindowEnd s).qli.degraded = false ∧
       overlapping (after .lineWindowEnd s) (moveFormula s (position s) 20400) = []) := by decide

theorem witness_LineSending :
    (pending7.running = true ∧ pending7.qli.clash = false ∧ (∀ x ∈ pending7.qli.queue, x.onLine = none) ∧
        pending7.qli.queue = [freshEntry claim7]) ∧
      (ready.running = false ∧ idle.qli.queue = []) ∧
      ((∃ x ∈ onLine7.qli.queue, x.onLine ≠ none) ∧ ∀ x ∈ onLine7.qli.queue, x.withdrawn = false) ∧
      (let s := markClaim onLine7
       (∃ x ∈ s.qli.queue, x.onLine ≠ none ∧ x.withdrawn = true) ∧ s.claim.state = .pending ∧
         s.cycle.state = .claiming) ∧
      (let s := { markClaim onLine7 with cycle := { Cycle.reset with state := .withdrawing, ending := true } }
       (∃ x ∈ s.qli.queue, x.onLine ≠ none ∧ x.withdrawn = true) ∧ s.claim.state = .pending ∧
         s.cycle.state = .withdrawing ∧ s.spout.state = .raised ∧ s.scale.pourOpen = false ∧
         s.scale.pendingOpen = false) := by decide

/-- A CLAIM lost on the line ends a WITHDRAWING that waits for it alone. -/
theorem test_lost_claim_ends_withdrawing :
    (after .arbitrationLost { markClaim onLine7 with
      cycle := { Cycle.reset with state := .withdrawing, ending := true } }).cycle.state = .idle := by decide

/-- A frame of station `b`. -/
def from_ (b : Nat) (g : Frame) : RxFrame := g.wire b

theorem witness_FramesJudged :
    (16 < (List.replicate 17 (0 : Byte)).length ∧ (List.replicate 17 (0 : Byte)).length ≤ 31) ∧
      (let f := { from_ 1 (.span 0 1200) with check := 0 }
       f.payload.length ≤ 16 ∧ f.check ≠ frameCheck f.key f.payload) ∧
      (let f := from_ 6 (.span 0 1200)
       f.payload.length ≤ 16 ∧ f.check = frameCheck f.key f.payload ∧ idle.cfg.rail = some rail0 ∧
         rail0.n ≤ f.key.toNat % 8) ∧
      (let f : RxFrame := { key := 25, payload := [], check := frameCheck 25 [] }
       Frame.ofPayload (f.key.toNat / 8) f.payload = none) ∧
      (let f := from_ 3 (.span 0 1200)
       Frame.ofPayload (f.key.toNat / 8) f.payload = some (.span 0 1200) ∧ f.key.toNat % 8 < rail0.n ∧
         f.key.toNat % 8 = idle.station ∧ idle.running = true) ∧
      idle.qli.rx = .hunting ∧ (heard idle).qli.rx = .lineIdle := by decide +kernel

/-- A frame is heard at the idle line and not by a receiver that hunts. -/
theorem test_hunting_hears_nothing :
    ((after (.frameHeard (.other (from_ 1 (.span 0 1200)))) idle).peers.getD 1 .reset).presence = .unheard ∧
      ((after (.frameHeard (.other (from_ 1 (.span 0 1200)))) (heard idle)).peers.getD 1 .reset).presence = .live := by
  decide +kernel

theorem witness_PeerFrameTaken :
    idle.station = 3 ∧ idle.peers.length = 8 ∧ (heard idle).qli.rx = .lineIdle ∧ (5 : Nat) < rail0.n ∧
      (peer table 2).presence = .silent ∧ idle.plan.state = .none ∧
      Frame.ofPayload (Frame.dust .trip 4 true 65535).cls (Frame.dust .trip 4 true 65535).payload =
        some (.dust .trip 4 true 65535) ∧
      Frame.ofPayload (Frame.span 0 1200).cls (Frame.span 0 1200).payload = some (.span 0 1200) ∧
      (let g : Frame := .beacon .pouring true false true false 20000 19400 20600 52 32741 7 1
       Frame.ofPayload g.cls g.payload = some g) := by decide +kernel

/-- The frame is one that its payload spells. -/
def spelled (g : Frame) : Bool := Frame.ofPayload g.cls g.payload == some g

/-- Station 5's and station 1's frames over the board after step 5 of section 6.11, record by record. -/
theorem witness_PeerFrameTaken_board :
    (merged5.plan.state = .ready ∧ merged5.plan.header = some header0 ∧ ownPlanId merged5 = some (52, 32741) ∧
        ownPlanId merged5 ≠ some (52, 0) ∧ findTranche merged5 4 = some (tranche 4 2 60000 0 (.claimed 1 12000) 1 0) ∧
        findTranche merged5 5 = some t5 ∧ findTranche merged5 7 = some (tranche 7 5 50000 0 (.claimed 5 800) 1 0)) ∧
      (spelled (.close 52 4 0 .done 1 9) && spelled (.close 52 4 1 .done 1 60000) &&
        spelled (.note 52 4 true 0 9) && spelled (.note 52 4 true 1 9) && spelled (.note 52 4 false 2 9) &&
        spelled (.tally 52 7 1 900) && spelled (.tally 52 5 1 900) && spelled (.tally 52 7 2 900) &&
        spelled (.beacon .idle true false true false 0 0 0 52 32741 0 0) &&
        spelled (.beacon .idle true false true false 0 0 0 52 32741 7 1) &&
        spelled (.beacon .idle true false true false 0 0 0 52 32741 4 2) &&
        spelled (.beacon .idle true false true false 0 0 0 52 32741 4 9)) = true ∧
      (t5.phase = .vacant ∧ 1 = t5.seq + 1 ∧ claimant (tranche 4 2 60000 0 (.claimed 1 12000) 1 0) = some 1 ∧
        ∃ v ∈ merged5.plan.tranches, v.hold = t5.hold ∧ v.phase = .claimed 1 12000) := by decide +kernel

/-- A frame of station `b` at `s`, the receiver at the idle line. -/
def told (b : Nat) (g : Frame) (s : State) : State := after (.frameHeard (.other (from_ b g))) (heard s)

/-- The BEACON of a station at 30,000 whose plan check is `check`. -/
def beaconOf (check : Nat) : Frame := .beacon .idle true false true false 30000 29400 30600 52 check 0 0

/-- The marks: station 1 told at this station's own 20,000 and one short of it, another plan check, agreement lost under a
pending claim. -/
theorem witness_PeerFrameTaken_marks :
    ((peer table 1).orderFault = false ∧ (peer (told 1 (.dust .clear 0 true 20000) table) 1).orderFault = true ∧
        (peer (told 1 (.dust .clear 0 true 19999) table) 1).orderFault = false ∧ table.travel.referenced = true) ∧
      ((peer pending7 5).mismatch = false ∧ (peer (told 5 (beaconOf 99) pending7) 5).mismatch = true ∧
        (peer (told 5 (beaconOf 32741) pending7) 5).mismatch = false) ∧
      (agreed pending7 = true ∧ agreed (told 5 (beaconOf 99) pending7) = false ∧ pending7.claim.state = .pending ∧
        claimPlace pending7 = .queued) := by decide +kernel

theorem witness_ClaimFrameMerged :
    (planned.station ≠ 5 ∧ (heard planned).qli.rx = .lineIdle ∧ planned.plan.state = .ready ∧ planned.plan.header = some header0 ∧
        findTranche planned 7 = some t7 ∧ t7.phase = .vacant ∧ 1 = t7.seq + 1 ∧ 5 = t7.hold ∧
        ∀ v ∈ planned.plan.tranches, claimant v = none) ∧
      (findTranche merged5 5 = some t5 ∧
        ∃ v ∈ merged5.plan.tranches, v.hold = t5.hold ∧ v.phase = .claimed 1 12000 ∧ 1 ≠ 6) ∧
      2 ≠ t7.hold ∧ 2 ≠ t7.seq + 1 := by decide

/-- Station 5's CLAIM makes the pending claim on tranche 7 void, its CLAIM queued, on the line or gone. -/
theorem witness_ClaimFrameMerged_pending :
    (pending7.claim.own = some { record7 with poured := false } ∧ spelled claim7 = true ∧
        findTranche (told 5 claim7 pending7) 7 = some (tranche 7 5 50000 0 (.claimed 5 0) 1 0) ∧
        claimPlace pending7 = .queued ∧ claimPlace onLine7 = .onLine ∧
        claimPlace { pending7 with qli := Qli.reset } = .gone ∧ moveWanted pending7.travel.state = false ∧
        (told 5 claim7 pending7).dust.exposure = pending7.dust.exposure) ∧
      (findTranche (told 5 (.span 30000 31000) pending7) 7 = some t7 ∧ t7.phase = .vacant ∧ t7.seq + 1 = 1) := by
  decide +kernel

/-- The held claim of `pouring` kept under station 5's SPAN, and taken by its CLOSE on this station's behalf, in POURING,
HALTED and WITHDRAWING. -/
theorem witness_ClaimFrameMerged_held :
    (let u := tranche 7 5 50000 0 (.claimed 3 0) 1 0
     let g : Frame := .close 52 7 1 .released 3 5
     u ∈ pouring.plan.tranches ∧ (∀ v ∈ pouring.plan.tranches, claimant v = some pouring.station → v = u) ∧
       spelled g = true ∧ (∃ v ∈ (told 5 (.span 30000 31000) pouring).plan.tranches, claimant v = some 3) ∧
       (∀ v ∈ (told 5 g pouring).plan.tranches, claimant v ≠ some 3) ∧ pourBegun pouring = true ∧
       pouring.scale.pendingClose = none ∧ pouring.spout.state = .lowered ∧ halted.claim.state = .held ∧
       BoardLaw pouring ∧ (pouring.cycle.state = .withdrawing → moveWanted pouring.travel.state = false) ∧
       moveWanted { pouring with cycle := { pouring.cycle with state := .withdrawing } }.travel.state = false) := by
  unfold BoardLaw; decide +kernel

/-- TAKEN_OVER: the claim is gone, the pour is asked to close, the spout goes up. -/
theorem test_taken_over :
    (let t := told 5 (.close 52 7 1 .released 3 5) pouring
     (t.claim.state, t.cycle.state, t.spout.state, t.scale.pendingClose, t.link.flags.getLsbD Event.takenOver.bit)) =
      (.none, .withdrawing, .raising, some .takenOver, true) := by decide +kernel
/-- YIELDED: station 2's BEACON names the tranche, and its number is the lower one. -/
theorem test_yielded :
    (let t := told 2 (.beacon .pouring true false true false 8000 7400 8600 52 32741 7 1) pouring
     (t.claim.state, t.scale.pendingClose)) = (.none, some .yielded) := by decide +kernel

/-- `pouring` closing its claim, the CLOSE on the line. -/
def closing : State :=
  { pouring with
    claim := { pouring.claim with
      state := .closing, own := some { record7 with closeFrame := some (.close 52 7 1 .released 3 0) } }
    qli := { Qli.reset with queue := [{ freshEntry (.close 52 7 1 .released 3 0) with
      onLine := some (.close 52 7 1 .released 3 0) }] } }

def spanOnLine : State :=
  { idle with qli := { Qli.reset with queue := [{ freshEntry (.span 19400 20600) with
      onLine := some (.span 19400 20600) }] } }

theorem witness_OwnEchoTaken :
    (∀ x ∈ idle.qli.queue, x.onLine = none) ∧
      ((lineEntry spanOnLine).map (fun e => (e.onLine, e.renewed)) = some (some (.span 19400 20600), false) ∧
        spanOnLine.claim.state ≠ .pending ∧ spanOnLine.travel.state ≠ .reserving ∧
        spanOnLine.cfg.rail = some rail0 ∧ spanOnLine.station < rail0.n) ∧
      ((lineEntry closing).map (fun e => e.onLine) = some (some (.close 52 7 1 .released closing.station 0)) ∧
        closing.claim.state = .closing ∧ (∃ r, closing.claim.own = some r ∧
          r.closeFrame = some (.close 52 7 1 .released closing.station 0)) ∧
        { closing with cycle := { Cycle.reset with state := .withdrawing } }.cycle.state = .withdrawing) ∧
      ((lineEntry onLine7).map (fun e => e.onLine) = some (some claim7) ∧ onLine7.claim.state = .pending ∧
        onLine7.claim.own = some { record7 with poured := false } ∧ record7.withdrawMark = false ∧
        claimResult onLine7.station true claim7 onLine7 = some true) ∧
      (let s := { onLine7 with plan := { plan0 with tranches := [t4, t5, { t7 with seq := 1 }] } }
       claimResult s.station true claim7 s = some false) := by decide

/-- `s` with the own frame `g` on the line and `rest` queued behind it. -/
def sending (g : Frame) (rest : List TxEntry) (s : State) : State :=
  { s with qli := { Qli.reset with queue := { freshEntry g with onLine := some g } :: rest } }

/-- Own frames on the line that the board takes: a stale CLOSE, one that closes, notes below, above and at the record's
sequence, tallies current, adopted and ignored, the own BEACON; with no claim, a pending one kept, the held one kept. -/
theorem witness_OwnEchoTaken_merged :
    ((lineEntry (sending (.note 52 4 true 1 9) [] merged5)).map (fun e => e.onLine) = some (some (.note 52 4 true 1 9)) ∧
        merged5.plan.state = .ready ∧ merged5.plan.header = some header0 ∧ merged5.claim.state = .none ∧
        merged5.travel.state ≠ .reserving ∧ merged5.cfg.rail = some rail0 ∧ merged5.station < rail0.n ∧
        findTranche merged5 4 = some (tranche 4 2 60000 0 (.claimed 1 12000) 1 0) ∧ findTranche merged5 5 = some t5) ∧
      (spelled (.close 52 4 0 .done 1 9) && spelled (.close 52 4 1 .done 1 60000) &&
        spelled (.note 52 4 true 0 9) && spelled (.note 52 4 true 1 9) && spelled (.note 52 4 false 2 9) &&
        spelled (.tally 52 7 1 900) && spelled (.tally 52 5 1 900) && spelled (.tally 52 7 2 900) &&
        spelled (beaconOf 32741)) = true ∧
      (findTranche pouring 7 = some (tranche 7 5 50000 0 (.claimed 3 0) 1 0) ∧ pouring.claim.state = .held ∧
        pouring.station = 3 ∧ ∃ v ∈ mergedTranches 3 true (.tally 52 7 1 900) pouring, v.id = 7 ∧ v.seq = 1 ∧
          claimant v = some 3) ∧
      (idle.plan.state = .none ∧ pending7.claim.state = .pending ∧ (Frame.note 52 4 true 0 9).isClaim = false ∧
        mergedTranches 3 true (.note 52 4 true 0 9) pending7 = [{ t4 with phase := .done, settled := 9 }, t5, t7] ∧
        t7.seq + 1 = record7.seq) := by decide +kernel

/-- An own NOTE that makes tranche 7 DONE: the pending claim's CLAIM waits behind it; the held claim goes. -/
theorem witness_OwnEchoTaken_ends :
    (let s := sending (.note 52 7 true 0 9) [freshEntry claim7] pending7
     s.claim.state = .pending ∧ s.travel.state ≠ .reserving ∧ spelled (.note 52 7 true 0 9) = true ∧
       (∃ x ∈ queueHeard s, x.frame.isClaim = true) ∧
       (mergedTranches 3 true (.note 52 7 true 0 9) s).any (fun v => v.id == 7 && v.phase == .vacant) = false) ∧
      (let s := sending (.note 52 7 true 1 9) [] pouring
       let v := tranche 7 5 50000 0 (.claimed 3 0) 1 0
       s.claim.state = .held ∧ s.claim.own ≠ none ∧ v ∈ s.plan.tranches ∧ claimant v = some s.station ∧
         (∀ w ∈ s.plan.tranches, claimant w = some s.station → w = v) ∧ spelled (.note 52 7 true 1 9) = true ∧
         ∀ w ∈ mergedTranches 3 true (.note 52 7 true 1 9) s, claimant w ≠ some s.station) := by decide +kernel

/-- They end so: CLAIM_LOST with the CLAIM gone, YIELDED. -/
theorem test_own_note_ends_claims :
    ((let t := after (.frameHeard .ownEcho) (sending (.note 52 7 true 0 9) [freshEntry claim7] pending7)
      (t.claim.state, t.qli.queue)) = (.none, [])) ∧
      ((let t := after (.frameHeard .ownEcho) (sending (.note 52 7 true 1 9) [] pouring)
        (t.claim.state, t.link.flags.getLsbD Event.yielded.bit)) = (.none, true)) := by decide +kernel

/-- Own frames of an earlier loading of plan 52 that reach the board while tranche 7 is held: a TALLY adopted for tranche 4,
which releases the held claim, and a CLOSE at the held claim's sequence (log 63). -/
theorem witness_OwnEchoTaken_leftOver :
    (let s := sending (.tally 52 4 1 900) [] pouring
     let v := tranche 7 5 50000 0 (.claimed 3 0) 1 0
     s.claim.state = .held ∧ s.claim.own ≠ none ∧ v ∈ s.plan.tranches ∧ claimant v = some s.station ∧
       (∀ w ∈ s.plan.tranches, claimant w = some s.station → w = v) ∧ spelled (.tally 52 4 1 900) = true ∧
       ∀ w ∈ mergedTranches 3 true (.tally 52 4 1 900) s, claimant w = some s.station → w.id = 4) ∧
      (let s := sending (.close 52 7 1 .released 3 0) [] pouring
       s.claim.state = .held ∧ s.station = 3 ∧ spelled (.close 52 7 1 .released 3 0) = true ∧
         ∀ w ∈ mergedTranches 3 true (.close 52 7 1 .released 3 0) s, claimant w = none) := by decide +kernel

theorem test_own_frames_left_over :
    [Frame.tally 52 4 1 900, .close 52 7 1 .released 3 0].map (fun g =>
      (let t := after (.frameHeard .ownEcho) (sending g [] pouring)
       (t.claim.state, t.link.flags.getLsbD Event.yielded.bit, t.plan.tranches.map claimant))) =
      [(.none, true, [some 3, none, none]), (.held, false, [none, none, none])] := by decide +kernel

/-- The own CLOSE on the line: it closes tranche 7's record at its sequence; one below the record's is stale. -/
theorem witness_OwnEchoTaken_close :
    (closing.plan.state = .ready ∧ closing.plan.header = some header0 ∧
        findTranche closing 7 = some (tranche 7 5 50000 0 (.claimed 3 0) 1 0) ∧ header0.number = 52 ∧
        spelled (.close 52 7 1 .released 3 0) = true ∧ closing.cfg.rail = some rail0 ∧ closing.station < rail0.n) ∧
      (let s := { closing with plan := { plan0 with tranches := [t4, t5, { t7 with seq := 2 }] } }
       findTranche s 7 = some { t7 with seq := 2 } ∧ 1 < 2) := by decide +kernel

theorem test_own_close_merged :
    (let t := after (.frameHeard .ownEcho) closing
     (t.claim.state, t.qli.queue, findTranche t 7)) = (.none, [], some (tranche 7 5 50000 0 .vacant 1 0)) := by
  decide +kernel

/-- `closing` with its CLOSE waiting last in a full queue, a DUST repeat due. -/
def crowdedClose : State :=
  { closing with
    dust := { closing.dust with repeatCount := 1, clearRepeats := 1 }
    qli := { Qli.reset with queue := List.replicate 5 (freshEntry (.dust .warn 0 true 20000)) ++
      [freshEntry (.close 52 7 1 .released 3 0)] } }

theorem witness_OwnEchoTaken_dropped :
    crowdedClose.running = true ∧ crowdedClose.qli.clash = false ∧
      (∀ x ∈ List.replicate 5 (freshEntry (.dust .warn 0 true 20000)), x.frame.cls < 3) ∧
      crowdedClose.claim.state = .closing ∧ 1 ≤ crowdedClose.dust.repeatCount ∧ repeatDue crowdedClose = true ∧
      (∃ r, crowdedClose.claim.own = some r ∧ r.closeFrame = some (.close 52 7 1 .released 3 0)) := by decide

/-- A dropped CLOSE is handed over again at every beacon tick until one is sent (R129): two ticks, two copies. -/
theorem test_dropped_close_resent :
    (let s := { closing with
        qli := Qli.reset, claim := { closing.claim with own := closing.claim.own.map (fun r => { r with resend := true }) } }
     (after .beaconTick (after .beaconTick s)).qli.queue.map (fun e => e.frame.cls)) = [3, 3, 6] := by decide

/-- A tower at `x` in RESERVING for 20,400, its move span on the line. -/
def reserving (x : Nat) : State :=
  { positioning with
    travel := { moving.travel with count := x, state := .reserving, held := false, holdTicks := 0 }
    qli := { Qli.reset with queue := [{ freshEntry (.span 19395 21005) with onLine := some (.span 19395 21005) }] } }

/-- `reserving` with its SPAN waiting last in a full queue, a DUST repeat due. -/
def crowded : State :=
  { reserving 20000 with
    claim := Claim.reset
    dust := { positioning.dust with repeatCount := 1, clearRepeats := 1 }
    qli := { Qli.reset with queue := [freshEntry (.dust .warn 0 true 20000), freshEntry (.dust .warn 1 true 20000),
      freshEntry (.dust .warn 2 true 20000), freshEntry (.dust .warn 3 true 20000), freshEntry claim7] ++
        [freshEntry (.span 19395 21005)] } }

theorem witness_OwnEchoTaken_reserving :
    ((lineEntry (reserving 20000)).map (fun e => (e.onLine, e.renewed)) = some (some (.span 19395 21005), false) ∧
        (reserving 20000).claim.state ≠ .pending ∧ (reserving 20000).travel.target = some 20400 ∧
        (rail0.creepZone < Machine.dist 20000 20400 ∧ Machine.dist 20250 20400 ≤ rail0.creepZone ∧
          rail0.arrivalTol < Machine.dist 20250 20400 ∧ Machine.dist 20395 20400 ≤ rail0.arrivalTol) ∧
        proxActive (reserving 20000) .high = false ∧
        proxActive { reserving 20000 with pins := { positioning.pins with proxHi := true } } .high = true) ∧
      (crowded.qli.queue.dropLast.length = 5 ∧ (∀ x ∈ crowded.qli.queue.dropLast, x.frame.cls < 4) ∧
        crowded.running = true ∧ crowded.qli.clash = false ∧ repeatDue crowded = true) := by decide

/-- The echo of the move span starts the drive; a DUST frame that pushes the SPAN out sends the tower back to WAITING. -/
theorem test_reserved_move :
    ((let t := (after (.frameHeard .ownEcho) (reserving 20000)).travel; (t.state, t.drive)),
      (let t := (after (.frameHeard .ownEcho) (reserving 20250)).travel; (t.state, t.drive)),
      (let t := after .dustRepeat crowded; (t.travel.state, t.travel.moveSpan, t.qli.txDrop))) =
      ((.moving, .fast .high), (.creeping, .creep .high), (.waiting, none, 2)) := by decide

/-- The own CLAIM: its figures, the withdrawal marks, and a pending claim made void before. -/
theorem witness_OwnEchoTaken_claim :
    (onLine7.plan.state = .ready ∧ onLine7.plan.header = some header0 ∧ findTranche onLine7 7 = some t7 ∧
        header0.number < 65536 ∧ onLine7.cfg.rail = some rail0 ∧ onLine7.station < rail0.n ∧ t7.hold = 5 ∧
        ∀ v ∈ onLine7.plan.tranches, claimant v = none) ∧
      (onLine7.cycle.state = .claiming ∧ onLine7.cycle.withdrawMark = false ∧ onLine7.travel.state = .stopped ∧
        onLine7.travel.homing = false ∧ onLine7.spout.state = .raised ∧ onLine7.bills.identity = none) := by decide

/-- An accepted CLAIM is HELD and its hatch, 400 cm off, is the target; with the claim's mark it is given back. -/
theorem test_claim_won :
    (let t := after (.frameHeard .ownEcho) onLine7
     let u := after (.frameHeard .ownEcho) { markClaim onLine7 with claim := { onLine7.claim with
       own := some { record7 with poured := false, withdrawMark := true } } }
     (t.claim.state, t.cycle.state, t.travel.target) = (.held, .positioning, some 20400) ∧
       (u.claim.state, u.claim.own.bind (fun c => c.closeFrame), u.claim.own.map (fun c => c.withdrawMark)) =
         (.closing, some (.close 52 7 1 .released 3 0), some false)) := by decide +kernel

theorem witness_PeersForgottenReadAndSilent :
    (frames [2] (fields [2]) ∧ table.peers.length = 8 ∧ table.running = true) ∧
      ((3 : Byte).toNat = table.station ∧ (rail table).n ≤ (6 : Byte).toNat ∧ 8 ≤ (8 : Byte).toNat) ∧
      ((2 : Byte).toNat ≠ table.station ∧ (2 : Byte).toNat < (rail table).n) ∧
      ((peer table 1).presence = .live ∧ (peer table 5).presence = .retired ∧ (peer table 2).presence = .silent ∧
        (peer table 0).presence = .unheard) ∧ ready.running = false ∧
      (let s := { table with peers := table.peers.set 1 { peer table 1 with age := some 1500 } }
       (peer s 1).presence = .live ∧ reached (peer s 1).age (peerTimeout s) = true ∧ 1499 < peerTimeout s) :=
  ⟨⟨fields_frames _ (by decide), by decide⟩, by decide⟩

/-- The entries of R90: in the table of section 5.9, and one with an order fault and one without a span. -/
theorem witness_PeersForgottenReadAndSilent_blocking :
    (table.cfg.rail = some rail0 ∧ (peer table 1).pos = some 8000 ∧ (peer table 1).orderFault = false ∧
        (peer table 1).span = some { lo := 7400, hi := 8600 } ∧ (peer table 4).pos = none ∧
        (peer table 4).presence = .live ∧ (peer table 5).presence = .retired ∧ (6 : Nat) = rail0.n) ∧
      (blocking { table with peers := table.peers.set 1 { peer table 1 with orderFault := true } } 1 =
          some { lo := 0, hi := 65535 } ∧
        blocking { table with peers := table.peers.set 1 { peer table 1 with span := none } } 1 =
          some { lo := 7200, hi := 8800 }) ∧
      freeStretch { table with peers := List.replicate 8 { Peer.reset with presence := .retired } } =
        some { lo := 0, hi := 65535 } := by decide

/-- `idle` with the plan of section 6.10 in BUILDING, `k` tranches and `h` holds given. -/
def building (h k : Nat) : State :=
  { idle with plan := { plan0 with
      state := .building, holds := [hold2, hold5].take h, tranches := [t4, t5, t7].take k, check := none } }

theorem witness_PlanBuilt :
    (idle.running = true ∧ idle.plan.state = .none ∧ planned.plan.state = .ready) ∧
      (let fs := le 2 52 ++ le 2 18000 ++ le 5 20000000 ++ le 1 12 ++ le 1 24
       frames fs (fields fs) ∧ fs.length = 11 ∧ 1 ≤ numAt fs 0 2 ∧ numAt fs 9 1 = 12 ∧ numAt fs 10 1 = 24) ∧
      numAt (le 2 0) 0 2 = 0 ∧
      ((building 2 3).plan.state = .building ∧ (building 2 3).plan.header = some header0 ∧
        header0.holdCount ≤ (building 2 3).plan.holds.length ∧
        header0.trancheCount ≤ (building 2 3).plan.tranches.length) ∧
      ((building 1 2).plan.holds.length < header0.holdCount ∧
        (let fs := le 1 12 ++ leSigned 2 2400 ++ le 2 32767 ++ leSigned 2 (-2000)
         fs.length = 7 ∧ numAt fs 0 1 = 12 ∧ numAt fs 3 2 = 32767 ∧ signed16 (numAt fs 5 2) = -2000 ∧
           ∀ y ∈ (building 1 2).plan.holds, y.number ≠ 12) ∧
        ∃ y ∈ (building 1 2).plan.holds, y.number = 2) ∧
      ((building 1 2).plan.tranches.length < header0.trancheCount ∧
        (let fs := le 1 24 ++ le 1 12 ++ le 4 4000000 ++ le 1 5
         fs.length = 7 ∧ numAt fs 0 1 = 24 ∧ numAt fs 2 4 = 4000000 ∧ numAt fs 6 1 = 5 ∧
           ∀ y ∈ (building 1 2).plan.tranches, y.id ≠ 24) ∧
        ∃ y ∈ (building 1 2).plan.tranches, y.id = 4) :=
  ⟨by decide, ⟨fields_frames _ (by decide), by decide⟩, by decide⟩

theorem witness_PlanSealedAndReady :
    (idle.plan.state = .none ∧ planned.plan.state = .ready ∧ idle.running = true) ∧
      (let s := { building 2 3 with plan := { (building 2 3).plan with holds := [hold2, { hold5 with number := 6 }] } }
       s.plan.state = .building ∧ sealFailure s = some (2, some 7)) ∧
      sealFailure (building 1 3) = some (1, none) ∧
      ((building 2 3).plan.header = some header0 ∧ sealFailure (building 2 3) = none) ∧
      (let s := { planned with plan := { plan0 with state := .learning, catchUp := some 16000 } }
       s.plan.state = .learning ∧ reached s.plan.catchUp 16000 = true) ∧ planned.plan.state ≠ .learning ∧
      reached (some 15999) 16000 = false := by decide

/-- Plans that fail each check of R101 and name what fails: the counts, a hold, a predecessor, a target, a hatch centre. -/
theorem witness_PlanSealedAndReady_checks :
    (let b := building 2 3
     let given (hs : List Hold) (ts : List Tranche) : State := { b with plan := { b.plan with holds := hs, tranches := ts } }
     [building 1 3, given [hold2, hold5] [t4, { t5 with hold := 3 }, t7],
       given [hold2, hold5] [{ t4 with pred := 5 }, t5, t7], given [hold2, hold5] [t4, t5, { t7 with target := 0 }],
       given [hold2, { hold5 with offset := -18001 }] [t4, t5, t7]].map sealFailure) =
      [some (1, none), some (2, some 5), some (3, some 4), some (4, some 7), some (5, some 5)] := by decide

/-- The sum of R102: figures in their ranges, the lists of section 6.10 in another order. -/
theorem witness_PlanSealedAndReady_sum :
    (∀ y ∈ (building 2 3).plan.holds, -32768 ≤ y.offset ∧ y.offset ≤ 32767 ∧ -2000 ≤ y.lever ∧ y.lever ≤ 2000) ∧
      header0.trimLimit < 2 ^ 40 ∧ [hold5, hold2].Perm (building 2 3).plan.holds ∧
      [t7, t4, t5].Perm (building 2 3).plan.tranches := by decide

/-- SEAL PLAN answers the fifth check with its hold. -/
theorem test_seal_names_hold :
    (let b := building 2 3
     (after (.sealPlan (fields [])) { b with plan := { b.plan with holds := [hold2, { hold5 with offset := -18001 }] } }).link.buf) =
      some { code := 16, status := .refused, reason := .badValue, result := [5, 5] } := by decide

theorem witness_PlanClosedAndRead :
    (idle.running = true ∧ idle.plan.state = .none ∧ (building 2 3).plan.state = .building) ∧
      (planned.plan.state = .ready ∧ planned.plan.header = some header0 ∧ planned.claim.state = .none ∧
        planned.cycle.state = .idle ∧ pouring.claim.state ≠ .none) ∧
      (findTranche planned 7 = some t7 ∧ findTranche planned 24 = none ∧ idle.bills.summary = none) ∧
      (after (.closePlan (fields [])) planned).bills.summary.isSome = true ∧ planned.plan.check = some 32741 ∧
      (planned.plan.tranches = [t4, t5] ++ t7 :: [] ∧ ∀ u ∈ [t4, t5], u.id ≠ t7.id) ∧
      (planned.plan.tranches = [] ++ t4 :: [t5, t7]) := by decide

/-- The last 14 bytes of READ TRANCHE for tranche 7 of section 6.10: 50,000 kg remaining, lever 200, centre 20,400 and hatch
window 19,900 to 20,900, each of the last three with its presence byte. -/
theorem test_tranche_record :
    (trancheBytes planned t7).drop 19 = bytes [80, 195, 0, 1, 200, 0, 1, 176, 79, 1, 188, 77, 164, 81] := by decide

/-- The parts of the summary of section 10.8: with its two holds, part 1 lists both and part 2 none. -/
theorem test_summary_parts :
    (let m : Summary := { number := 60, check := 513, closedAt := 4000, holds := [{ number := 2, boardKg := 24180, ownKg := 0 },
      { number := 7, boardKg := 18012, ownKg := 18012 }], entries := 1, stray := 41377 }
     [0, 1, 2, 3].map (fun n => summaryPart n m)) =
      [some (bytes [60, 0, 1, 2, 160, 15, 0, 0, 1, 0, 161, 161, 0, 0, 0, 0]),
       some (bytes [2, 2, 116, 94, 0, 0, 0, 0, 0, 0, 7, 92, 70, 0, 0, 92, 70, 0, 0]), some (bytes [0]), none] := by decide

theorem witness_NotesAndTakeover :
    (let s := { planned with plan := { plan0 with tranches := [t4, t5, { t7 with phase := .done }] } }
     s.plan.state = .ready ∧ s.plan.header = some header0 ∧ nextNote s = some { t7 with phase := .done } ∧
       s.qli.clash = false ∧ s.qli.queue.length < 6) ∧
      nextNote merged5 = none ∧
      (let t := { t7 with phase := .claimed 5 800, seq := 1, settled := 1 }
       nextNote { planned with plan := { plan0 with tranches := [t] } } = some t) ∧
      (let t := { t7 with settled := 1 }
       nextNote { planned with plan := { plan0 with tranches := [t] } } = some t) ∧
      (∀ u ∈ planned.plan.tranches, u.phase ≠ .done ∧ u.settled = 0) ∧
      (planned.running = true ∧ idle.plan.state = .none ∧ (building 2 3).plan.state = .building ∧
        findTranche planned 24 = none ∧ findTranche planned 7 = some t7 ∧ claimant t7 = none) ∧
      (findTranche merged5 7 = some (tranche 7 5 50000 0 (.claimed 5 800) 1 0) ∧ 5 ≠ merged5.station ∧
        (peer merged5 5).presence ≠ .silent) ∧
      (let s := { merged5 with peers := merged5.peers.set 5 { Peer.reset with presence := .silent } }
       (peer s 5).presence = .silent ∧ s.qli.clash = false ∧ s.qli.queue.length < 6) := by decide

/-- From the cursor 5 the next note is tranche 7, and from 7 it goes round to tranche 4. -/
theorem witness_NotesAndTakeover_order :
    (let s (cursor : Nat) : State := { planned with plan := { plan0 with
        tranches := [{ t4 with settled := 9 }, t5, { t7 with phase := .done }], cursor := cursor } }
     BoardLaw (s 5) ∧ BoardLaw (s 7) ∧ [5, 7].map (fun c => (after .noteTick (s c)).plan.cursor) = [7, 4]) := by
  unfold BoardLaw; decide

theorem witness_HomingAndMarker :
    (let s := { idle with travel := { idle.travel with referenced := false } }
     s.running = true ∧ s.travel.referenced = false ∧ s.spout.state = .raised ∧ s.cycle.state = .idle ∧
       s.travel.state = .stopped ∧ proxActive s (rail s).homeDir = false ∧
       proxActive { s with pins := { s.pins with proxLo := true } } (rail s).homeDir = true) ∧
      idle.travel.referenced = true ∧ ready.running = false ∧ idle.pins.home = false ∧
      (rail idle).homeTol < position idle - (rail idle).homeCm ∧
      (let s := { idle with travel := { idle.travel with state := .creeping, homing := true } }
       s.travel.state = .creeping ∧ s.travel.homing = true ∧ s.cycle.state = .idle) := by decide

/-- A move to 23,400 as in section 8.11, the home marker at `home`. -/
def marked (home : Nat) (st : TravelState) (sp : Stretch) : State :=
  { idle with
    cfg := { idle.cfg with rail := some { rail0 with homeCm := home } }
    peers := List.replicate 8 { Peer.reset with presence := .retired }
    travel := { moving.travel with
      count := 20999, state := st, target := some 23400, moveSpan := some sp, held := false, holdTicks := 0,
      drive := if st = .reserving then .off else .fast .high } }

/-- A marker edge in a move with the span narrowed, in RESERVING, outside the span. -/
theorem witness_HomingAndMarker_move :
    (let sp : Stretch := { lo := 20394, hi := 24005 }
     DriveLaw (marked 21000 .moving sp) ∧ DriveLaw (marked 21000 .reserving sp) ∧
       (marked 21000 .moving sp).cfg.rail ≠ none ∧ 1 ≤ (rail (marked 21000 .moving sp)).countsPerCm ∧
       moveFormula (marked 21000 .moving sp) 21000 23400 = { lo := 20395, hi := 24005 } ∧
       overlapping (after (.homeMarkerEdge true) (marked 21000 .moving sp)) { lo := 20395, hi := 24005 } = [] ∧
       overlapping (after (.homeMarkerEdge true) (marked 21000 .reserving sp)) sp = [] ∧ (20393 : Nat) < sp.lo) := by
  unfold DriveLaw; decide

/-- The same move's other figures: its flags and queue, the creep zone, the tolerance and an overshoot; a parked tower. -/
theorem witness_HomingAndMarker_tests :
    (let s := marked 21000 .moving { lo := 20394, hi := 24005 }
     s.running = true ∧ s.travel.homing = false ∧ s.travel.held = false ∧ s.travel.correcting = false ∧
       s.pins.home = false ∧ s.qli.clash = false ∧ s.qli.queue.length < 6 ∧ s.travel.approach = some .low ∧
       s.travel.overshoots = 0 ∧ (after (.homeMarkerEdge true) s).cycle.state = s.cycle.state) ∧
      (Machine.dist 23250 23400 ≤ rail0.creepZone ∧ Machine.dist 23395 23400 ≤ rail0.arrivalTol ∧
        23400 + rail0.arrivalTol < 23406) ∧
      (idle.travel.state = .stopped ∧ idle.qli.clash = false ∧ idle.qli.queue.length < 5 ∧
        body (after (.homeMarkerEdge true) idle) ≠ body idle ∧ idle.cycle.state ≠ .positioning) := by decide

/-- The marker at 20,393 leaves the span, at 23,250 the creep zone is entered, at 23,406 the target is overshot. -/
theorem test_marker_in_move :
    ([20393, 23250, 23406].map (fun x =>
      (let t := (after (.homeMarkerEdge true) (marked x .moving { lo := 20394, hi := 24005 })).travel
       (t.state, t.drive, t.overshoots)))) =
      [(.faulted, .off, 0), (.creeping, .creep .high, 0), (.creeping, .off, 1)] := by decide

theorem witness_MooringShifted :
    ((le 2 18120).length = 2 ∧ idle.running = true ∧ idle.plan.state = .none ∧ planned.plan.state ≠ .none) ∧
      (let s := { moving with travel := { moving.travel with state := .waiting, moveSpan := none, held := false } }
       DriveLaw s ∧ s.travel.state = .waiting ∧ s.travel.targetHold = some 5 ∧ findHold s 5 = some hold5 ∧
         targetOnRail s (hatchCentre { s with plan := { s.plan with
           header := s.plan.header.map (fun h => { h with vesselRef := 18120 }) } } hold5) = true) ∧
      (planned.travel.targetHold = none ∧ planned.spout.state = .raised ∧ planned.cycle.state ≠ .positioning) := by
  unfold DriveLaw; decide

/-- `s` with the vessel reference `v`. -/
def shifted (v : Nat) (s : State) : State :=
  { s with plan := { s.plan with header := s.plan.header.map (fun h => { h with vesselRef := v }) } }

/-- The table of R151 for the move of `moving` (span 19,395 to 21,005) to hold 5: centre 20,520 within the span, 21,006
beyond it, 59,900 off the rail; and the window of `pouring` moved off its position. -/
theorem witness_MooringShifted_table :
    (DriveLaw moving ∧ moveWanted moving.travel.state = true ∧ moving.travel.homing = false ∧
        moving.travel.targetHold = some 5 ∧ findHold moving 5 = some hold5 ∧
        moving.travel.moveSpan = some { lo := 19395, hi := 21005 } ∧ moving.cycle.state = .positioning ∧
        pourBegun moving = false ∧ moving.claim.state = .held ∧
        moving.claim.own = some { record7 with poured := false } ∧
        pourBegun { moving with scale := { moving.scale with pourOpen := true } } = true) ∧
      ([18120, 18606, 57500].map (fun v => (hatchCentre (shifted v moving) hold5,
          targetOnRail moving (hatchCentre (shifted v moving) hold5))) =
        [(20520, true), (21006, true), (59900, false)]) ∧
      ((rail moving).creepZone < Machine.dist (position moving) 20520 ∧ Machine.dist (position moving) 20150 ≤ (rail moving).creepZone ∧
        Machine.dist (position moving) 20005 ≤ (rail moving).arrivalTol ∧ (rail moving).arrivalTol < Machine.dist (position moving) 20006 ∧
        hatchCentre (shifted 17605 moving) hold5 = 20005) ∧
      (proxActive moving .low = false ∧ proxActive moving .high = false ∧ moving.qli.degraded = false ∧
        overlapping { moving with peers := List.replicate 8 { Peer.reset with presence := .retired } }
          (moveFormula moving 20000 21006) = [] ∧ moving.qli.queue.length < 6 ∧ moving.qli.clash = false) ∧
      (pouring.travel.targetHold = none ∧ inWindow pouring = true ∧ inWindow (shifted 20000 pouring) = false ∧
        pouring.spout.state = .lowered ∧ record7.closedKg = none ∧ record7.endRequest = none ∧
        pourBegun pouring = true ∧ pouring.scale.pendingClose = none ∧ halted.cycle.state = .halted) := by
  unfold DriveLaw; decide

/-- A move that has passed its new centre 19,998 with PROX_LO active, within the tolerance: the drive runs toward HIGH. -/
theorem witness_MooringShifted_prox :
    (let s := { movingAt 20000 { lo := 19395, hi := 21005 } with
       plan := plan0, pins := { State.reset.pins with proxLo := true } }
     let t := { s with travel := { s.travel with targetHold := some 5 } }
     DriveLaw t ∧ t.travel.state = .moving ∧ t.travel.drive.dir = some .high ∧
       hatchCentre (shifted 17598 t) hold5 = 19998 ∧ proxActive t .low = true ∧ findHold t 5 = some hold5 ∧
       targetOnRail t 19998 = true ∧ (after (.mooringShift (fields (le 2 17598))) t).travel.fault = some .prox) := by
  unfold DriveLaw; decide

/-- A move in the creep zone of its new centre creeps toward it; one whose centre leaves its span checks again. -/
theorem test_shift_moving :
    (let s := { movingAt 20000 { lo := 19395, hi := 21005 } with plan := plan0 }
     let t := (after (.mooringShift (fields (le 2 17700))) s).travel
     (t.state, t.drive, t.target, (after (.mooringShift (fields (le 2 18606))) s).travel.state)) =
      (.creeping, .creep .high, some 20100, .waiting) := by decide

theorem witness_EncoderEdges :
    (let s := { idle with cfg := { idle.cfg with rail := some { rail0 with countsPerCm := 2 } } }
     position (countEdge (s.travel.count + 1) s) = position s) ∧
      (let s := { idle with travel := { idle.travel with count := 0 } }
       position (countEdge (s.travel.count - 1) s) = position s) := by decide

/-- `movingAt` without peers that block. -/
def alone (x : Nat) (sp : Stretch) : State :=
  { movingAt x sp with peers := List.replicate 8 { Peer.reset with presence := .retired } }

/-- Edges to a new centimetre of the move of section 8.11: running, entering the creep zone, within tolerance, overshot
once and twice, outside its span; the end of a homing search; a parked tower. -/
theorem witness_EncoderEdges_move :
    (DriveLaw (alone 20999 { lo := 20394, hi := 24005 }) ∧
        (alone 20999 { lo := 20394, hi := 24005 }).cfg.rail = some rail0 ∧
        (alone 20999 { lo := 20394, hi := 24005 }).travel.state = .moving ∧
        (alone 20999 { lo := 20394, hi := 24005 }).travel.held = false ∧
        (alone 20999 { lo := 20394, hi := 24005 }).travel.correcting = false ∧
        moveFormula (alone 20999 { lo := 20394, hi := 24005 }) 21000 23400 = { lo := 20395, hi := 24005 } ∧
        overlapping (after (.encoderEdge .up) (alone 20999 { lo := 20394, hi := 24005 })) { lo := 20395, hi := 24005 } =
          [] ∧
        (after (.encoderEdge .up) (alone 20999 { lo := 20394, hi := 24005 })).cycle.state = .idle) ∧
      ((rail0.creepZone < Machine.dist 21000 23400 ∧ Machine.dist 23250 23400 ≤ rail0.creepZone ∧ rail0.arrivalTol < Machine.dist 23250 23400) ∧
        Machine.dist 23395 23400 ≤ rail0.arrivalTol ∧ 23400 + rail0.arrivalTol < 23406) ∧
      ((alone 23405 { lo := 22795, hi := 24005 }).travel.approach = some .low ∧
        (alone 23405 { lo := 22795, hi := 24005 }).travel.overshoots = 0) ∧
      (21000 + 1 : Nat) > ({ lo := 20000, hi := 21000 } : Stretch).hi ∧
      (let s := { idle with travel := { idle.travel with
          referenced := false, state := .creeping, homing := true, searchStart := some 22000 } }
       s.travel.state = .creeping ∧ s.travel.homing = true ∧ (rail s).homeSearch ≤ Machine.dist 19999 22000) ∧
      (idle.travel.state = .stopped ∧ idle.running = true ∧ idle.cycle.state ≠ .positioning ∧
        idle.qli.queue.length < 5 ∧ body (after (.encoderEdge .up) idle) ≠ body idle) := by
  unfold DriveLaw; decide

theorem test_span_exit :
    (let t := (after (.encoderEdge .up) (alone 21000 { lo := 20000, hi := 21000 })).travel
     (t.state, t.fault)) = (.faulted, some .spanExit) := by decide

theorem witness_TravelFaults :
    idle.travel.drive.dir ≠ some .low ∧ (∀ d, idle.travel.drive.dir = some d → proxActive idle d = false) ∧
      (let s := movingAt 21000 { lo := 20395, hi := 24005 }
       s.travel.drive.dir = some .high ∧ s.travel.state ≠ .faulted ∧ s.travel.drive ≠ .off ∧
         reached (some 500) (rail s).stallTime = true ∧ reached (some 499) (rail s).stallTime = false ∧
         s.cycle.state = .idle ∧ moving.cycle.state ≠ .idle) ∧ idle.travel.drive = .off := by
  refine ⟨by decide, ?_, by decide⟩
  intro d h; cases h

/-- Coasting in CREEPING at `x`, target 20,400. -/
def coastingAt (x : Nat) : State :=
  { moving with travel := { moving.travel with
      count := x, state := .creeping, held := false, holdTicks := 0, restMs := some 200 } }

/-- `moving` with station 4's span across its own. -/
def conflicted : State :=
  let four : Peer := { Peer.reset with
    presence := .live, referenced := true, pos := some 21600, span := some { lo := 21000, hi := 22200 } }
  { moving with peers := moving.peers.set 4 four }

theorem witness_RestAndHold :
    (coastingAt 20395).travel.target = some 20400 ∧
      ((coastingAt 20395).travel.state = .creeping ∧ reached (coastingAt 20395).travel.restMs 200 = true ∧
        position (coastingAt 20395) - 20400 ≤ (rail moving).arrivalTol ∧
        20400 - position (coastingAt 20395) ≤ (rail moving).arrivalTol) ∧
      ((coastingAt 20406).travel.held = false ∧ (rail moving).arrivalTol < position (coastingAt 20406) - 20400 ∧
        proxActive (coastingAt 20406) .low = false ∧ proxActive (coastingAt 20406) .high = false) ∧
      moving.travel.state ≠ .creeping ∧ reached (some 199) 200 = false ∧
      (conflicted.running = true ∧ conflicted.travel.held = true ∧ 1 ≤ conflicted.travel.holdTicks ∧
        conflicted.travel.moveSpan = some { lo := 19395, hi := 21005 } ∧
        blocking conflicted 4 = some { lo := 20800, hi := 22400 } ∧
        ({ lo := 20800, hi := 22400 } : Stretch).overlaps { lo := 19395, hi := 21005 } = true ∧
        conflicted.travel.state = .moving ∧ conflicted.cycle.state ≠ .idle ∧
        conflicted.travel.target = some 20400) ∧
      (∀ i, i < 8 → blocking { moving with peers := List.replicate 8 { Peer.reset with presence := .retired } } i = none) := by
  decide

/-- `moving` free of a hold, peers 2 and 4 standing clear of its span, the receiver in a frame. -/
def clear : State :=
  let at_ (x : Nat) : Peer := { Peer.reset with
    presence := .live, referenced := true, pos := some x, span := some { lo := x - 600, hi := x + 600 } }
  { heard moving with
    travel := { moving.travel with held := false, holdTicks := 0, drive := .fast .high }
    peers := [.reset, .reset, at_ 15000, .reset, at_ 25000, .reset, .reset, .reset].map
      (fun p => if p.presence = .live then p else { Peer.reset with presence := .retired }) }

/-- ARRIVED in POSITIONING; a late conflict with the lower number 2, and with the higher number 4. -/
theorem witness_RestAndHold_late :
    ((coastingAt 20395).cycle.state = .positioning ∧ (coastingAt 20395).spout.state = .raised ∧
        inWindow (coastingAt 20395) = true ∧ permit (coastingAt 20395) = true ∧
        inWindow (coastingAt 19900) = true ∧ inWindow (coastingAt 19899) = false) ∧
      (clear.running = true ∧ clear.travel.moveSpan = some { lo := 19395, hi := 21005 } ∧ clear.cfg.rail ≠ none ∧
        clear.station = 3 ∧ blocking clear 2 = some { lo := 14200, hi := 15800 } ∧
        blocking clear 4 = some { lo := 24200, hi := 25800 }) ∧
      (blocking (told 2 (.span 18000 19300) clear) 2 = some { lo := 17800, hi := 19500 } ∧
        blocking (told 4 (.span 21200 22000) clear) 4 = some { lo := 21000, hi := 22200 } ∧
        blocking (told 4 (.span 24400 25600) clear) 4 = blocking clear 4 ∧
        (told 4 (.span 21200 22000) clear).dust.exposure = clear.dust.exposure) := by decide +kernel

/-- `clear` WAITING without a move span: station 4's SPAN changes its interval, clear of the move formula or across it. -/
theorem witness_RestAndHold_waiting :
    (let s := { clear with travel := waiting.travel }
     let t := told 4 (.span 24600 25600) s
     let u := told 4 (.span 21200 22000) s
     s.travel.state = .waiting ∧ s.travel.target = some 20400 ∧ s.running = true ∧ s.cfg.rail ≠ none ∧
       s.qli.clash = false ∧ s.qli.queue.length ≤ 5 ∧ blocking t 4 ≠ blocking s 4 ∧ blocking u 4 ≠ blocking s 4 ∧
       t.dust.exposure = s.dust.exposure ∧ u.dust.exposure = s.dust.exposure ∧ t.qli.degraded = false ∧
       overlapping t (moveFormula s (position s) 20400) = [] ∧
       overlapping u (moveFormula s (position s) 20400) = [4] ∧ t.travel.state = .reserving ∧
       u.travel.state = .waiting) := by decide +kernel

/-- The lower number takes the rail back, the higher one holds the move; the arrival asks for the spout. -/
theorem test_late_conflict :
    ((let t := (told 2 (.span 18000 19300) clear).travel; (t.state, t.held, t.drive)),
      (let t := (told 4 (.span 21200 22000) clear).travel; (t.state, t.held, t.drive)),
      (after .restTimeEnd (coastingAt 20395)).spout.state) =
      ((.waiting, false, .off), (.moving, true, .off), .lowering) := by decide +kernel

/-- `s` with the spout in a state, its timer running, each limit active at its own end alone. -/
def spoutIn (st : SpoutState) (s : State) : State :=
  { s with spout := { state := st, jam := none, ms := some 5 },
           pins := { s.pins with raised := decide (st = .raised), lowered := decide (st = .lowered) } }

theorem witness_SpoutLimitsAndTimeout :
    (ready.running = false ∧ idle.running = true ∧ idle.spout.state = .raised ∧ pouring.spout.state = .lowered ∧
        pouring.cycle.state ≠ .idle) ∧
      (idle.pins.raised = true ∧ setLimit .raised false idle.pins ≠ idle.pins ∧ idle.pins.lowered = false ∧
        setLimit .lowered false pouring.pins ≠ pouring.pins ∧ (spoutIn .lowering positioning).pins.lowered = false ∧
        (spoutIn .raising positioning).pins.raised = false) ∧
      ((spoutIn .lowering positioning).spout.state = .lowering ∧
        (spoutIn .lowering positioning).cycle.state = .positioning ∧ positioning.scale.pourOpen = false ∧
        positioning.scale.pendingOpen = false) ∧
      (let s := spoutIn .raising { idle with cycle := { Cycle.reset with state := .withdrawing } }
       s.spout.state = .raising ∧ s.cycle.state ≠ .positioning ∧ s.cycle.state = .withdrawing ∧
         s.claim.state = .none) ∧
      (reached (some 10000) (spoutLimit idle) = true ∧ reached (some 9999) (spoutLimit idle) = false) ∧
      (let s := spoutIn .raising positioning
       s.running = true ∧ s.cycle.state = .positioning ∧ s.travel.state = .stopped ∧ s.travel.homing = false ∧
         inWindow s = true ∧ permit s = true ∧ permit { s with pins := setContact .p1 false s.pins } = false ∧
         s.claim.state = .held ∧ s.claim.own = some { record7 with poured := false } ∧
         inWindow { s with travel := { s.travel with count := 20901 } } = false ∧
         (findHold s 5 = some hold5 ∧ targetOnRail s (hatchCentre s hold5) = true ∧
           (rail s).arrivalTol < Machine.dist 20901 (hatchCentre s hold5))) ∧
      (let s := { positioning with pins := setContact .p1 false positioning.pins }
       s.spout.state = .raised ∧ s.cycle.state = .positioning ∧ inWindow s = true ∧ permit s = false ∧
         permit { s with pins := setContact .p1 true s.pins } = true) ∧
      (spoutIn .jammed idle).spout.state = .jammed ∧ idle.spout.ms = none := by decide

/-- RAISED in POSITIONING: the spout goes down again in the window under the permit; off the window a move is asked. -/
theorem test_raised_in_positioning :
    (let s := spoutIn .raising positioning
     let u := { s with travel := { s.travel with count := 20901 } }
     ((after (.limitSwitchChange .raised true) s).spout.state,
       (after (.limitSwitchChange .raised true) u).travel.target)) = (.lowering, some 20400) := by decide

theorem witness_StartSetsAuto :
    (frames [] (fields []) ∧ ready.running = false ∧ idle.running = true ∧ idle.scale.calRunning = false) ∧
      (calibrating 0 0 0 0).scale.calRunning = true ∧
      { idle with cycle := { idle.cycle with auto := true } }.cycle.auto = true ∧
      AutoLaw { idle with pending := [.start (fields [])] } ∧
      ∃ t, step { idle with pending := [.start (fields [])] } = .next t :=
  ⟨⟨fields_frames _ (by decide), by decide⟩, rfl, rfl, by unfold AutoLaw; decide, _, rfl⟩

theorem witness_StopWithdraws :
    (idle.running = true ∧ idle.cycle.state = .idle) ∧
      (let s := { halted with cycle := { halted.cycle with causes := [.ownTrip] } }
       s.cycle.state = .halted ∧ haltSteps s = none) ∧ pouring.cycle.state = .pouring ∧
      (positioning.cycle.state = .positioning ∧ positioning.scale.pourOpen = false ∧
        positioning.scale.pendingOpen = false ∧ positioning.claim.state = .held ∧
        positioning.claim.own = some { record7 with poured := false }) ∧
      { positioning with scale := { positioning.scale with pendingOpen := true } }.scale.pendingOpen = true ∧
      ((spoutIn .lowering positioning).spout.state = .lowering ∧ (spoutIn .lowered positioning).spout.state = .lowered ∧
        positioning.spout.state ≠ .lowering ∧ positioning.spout.state ≠ .lowered) ∧
      moveWanted moving.travel.state = true ∧
      (pending7.cycle.state = .claiming ∧ pending7.claim.state = .pending ∧ claimPlace pending7 = .queued ∧
        claimPlace onLine7 = .onLine) ∧
      (halted.cycle.state = .halted ∧ (haltSteps halted).isSome = true) := by decide

theorem witness_HaltStopsTheTower :
    (idle.running = true ∧ idle.cycle.state = .idle) ∧ (pouring.cycle.state ≠ .idle ∧ pouring.claim.state = .held) ∧
      (spoutIn .lowering positioning).spout.state = .lowering ∧ moveWanted moving.travel.state = true ∧
      (halted.cycle.state = .halted ∧ HaltCause.hostHalt ∈ halted.cycle.causes) ∧
      (pending7.claim.state = .pending ∧ claimPlace pending7 = .queued ∧ pending7.bills.identity = none ∧
        pending7.cycle.state = .claiming ∧ moveWanted pending7.travel.state = false) ∧
      (onLine7.claim.state = .pending ∧ claimPlace onLine7 = .onLine ∧
        ∀ e ∈ onLine7.qli.queue, e.frame.isClaim = true → e.onLine ≠ none) ∧
      (let s := { halted with cycle := { halted.cycle with causes := [.beltStall] } }
       s.cycle.state = .halted ∧ HaltCause.hostHalt ∉ s.cycle.causes ∧ s.scale.pourOpen = true) := by decide

/-- HALT in CLAIMING ends a claim still queued and marks one on the line. -/
theorem test_halt_withdraws_claim :
    [pending7, onLine7].map (fun s =>
      (let t := after (.halt (fields [])) s
       (t.cycle.state, t.claim.state, t.claim.own.map (fun r => r.withdrawMark), t.bills.reserved))) =
      [(.halted, .none, none, false), (.halted, .pending, some true, true)] := by decide

theorem witness_ClearHaltLeaves :
    (pouring.running = true ∧ pouring.cycle.state ≠ .idle ∧ pouring.cycle.state ≠ .halted) ∧
      HaltCause.hostLapse ∈ { halted with cycle := { halted.cycle with causes := [.hostLapse] } }.cycle.causes ∧
      (let s := { spoutIn .jammed idle with pins := { idle.pins with raised := false } }
       s.cycle.state = .idle ∧ s.spout.state = .jammed ∧ s.pins.raised = s.pins.lowered) ∧
      (idle.spout.state ≠ .jammed ∧ idle.travel.state ≠ .faulted) ∧
      { idle with travel := { idle.travel with state := .faulted } }.travel.state = .faulted ∧
      ((haltSteps halted).isSome = true ∧ halted.cycle.withdrawMark = false ∧ halted.cycle.ending = false ∧
        halted.claim.state = .held ∧ halted.cycle.settleMs = none ∧ halted.scale.pourOpen = true ∧
        (haltSteps halted).map (fun u => u.spout.state) = some .lowered ∧ pauseStands halted = false) ∧
      pauseStands { halted with pins := { halted.pins with p1 := false } } = true ∧
      { halted with cycle := { halted.cycle with ending := true } }.cycle.ending = true ∧
      { halted with cycle := { halted.cycle with settleMs := some 0 } }.cycle.settleMs ≠ none ∧
      (let s := { spoutIn .jammed idle with pins := { idle.pins with raised := true, lowered := false } }
       s.cycle.state = .idle ∧ s.spout.state = .jammed ∧ s.pins.raised ≠ s.pins.lowered ∧ s.travel.state ≠ .faulted ∧
         { s with travel := { s.travel with state := .faulted } }.travel.state = .faulted) ∧
      (HaltCause.stationClash ∉ halted.cycle.causes ∧ HaltCause.ownTrip ∉ halted.cycle.causes ∧
        HaltCause.hostLapse ∉ halted.cycle.causes ∧ halted.spout.state ≠ .jammed) := by decide

/-- `positioning` HALTED by the host. -/
def haltedHigh : State :=
  { positioning with cycle := { Cycle.reset with state := .halted, causes := [.hostHalt], haltCause := some .hostHalt } }

/-- HALTED without a claim, the spout up and down: IDLE at once, a homing search stopped, and WITHDRAWING. -/
theorem test_clear_halt_without_claim :
    (let s := { haltedHigh with
        claim := Claim.reset, travel := { haltedHigh.travel with state := .creeping, homing := true } }
     let t := after (.clearHalt (fields [])) s
     (t.cycle.state, t.travel.state, (after (.clearHalt (fields [])) (spoutIn .lowered s)).cycle.state)) =
      (.idle, .stopped, .withdrawing) := by decide

theorem witness_ClearHaltLeaves_positioning :
    ((haltSteps haltedHigh).map (fun u => (u.spout.state, u.travel.state, u.travel.homing)) =
        some (.raised, .stopped, false) ∧
      haltedHigh.cycle.withdrawMark = false ∧ haltedHigh.cycle.ending = false ∧ haltedHigh.claim.state = .held ∧
      haltedHigh.cycle.settleMs = none ∧ haltedHigh.scale.pourOpen = false ∧ inWindow haltedHigh = true ∧
      permit haltedHigh = true ∧ permit { haltedHigh with pins := setContact .p1 false haltedHigh.pins } = false ∧
      inWindow { haltedHigh with travel := { haltedHigh.travel with count := 20901 } } = false ∧
      haltedHigh.claim.own = some { record7 with poured := false } ∧ haltedHigh.cfg.lines = some lines0) ∧
      ((haltSteps (spoutIn .lowering haltedHigh)).map (fun u => u.spout.state) = some .lowering ∧
        (let s := { spoutIn .lowered haltedHigh with pins := pouring.pins }
         (haltSteps s).map (fun u => u.spout.state) = some .lowered ∧ s.scale.pendingOpen = false)) ∧
      (let s := { haltedHigh with cycle := { haltedHigh.cycle with withdrawMark := true } }
       (haltSteps s).isSome = true ∧ s.cycle.withdrawMark = true ∧ s.cycle.ending = false ∧ pourBegun s = false ∧
         pourBegun { s with scale := { s.scale with pourOpen := true } } = true ∧
         { s with cycle := { s.cycle with settleMs := some 0 } }.cycle.settleMs ≠ none ∧
         { s with cycle := { s.cycle with ending := true } }.cycle.ending = true) := by decide

/-- POSITIONING entered from HALTED acts at once: in the window under the permit it lowers the spout. -/
theorem test_clear_halt_positions :
    (let t := after (.clearHalt (fields [])) haltedHigh
     (t.cycle.state, t.spout.state, t.cycle.attendMs)) = (.positioning, .lowering, some 0) := by decide

/-- PAUSED with the claim of `positioning` unpoured. -/
def pausedUnpoured : State := { positioning with cycle := { Cycle.reset with state := .paused } }

theorem witness_WithdrawAndKeep :
    (idle.running = true ∧ idle.cycle.state ≠ .paused ∧ idle.cycle.state ≠ .halted) ∧
      (let s := { halted with cycle := { halted.cycle with causes := [.stationClash] } }
       s.cycle.state = .halted ∧ haltSteps s = none) ∧
      (halted.cycle.state = .halted ∧ haltSteps halted ≠ none) ∧
      (let s := { pouring with cycle := { pouring.cycle with state := .paused } }
       s.cycle.ending = false ∧ s.claim.state = .held ∧ s.cycle.settleMs = none ∧ s.scale.pourOpen = true ∧
         { s with cycle := { s.cycle with settleMs := some 0 } }.cycle.settleMs ≠ none ∧
         { s with cycle := { s.cycle with ending := true } }.cycle.ending = true) ∧
      (pausedUnpoured.cycle.state = .paused ∧ pausedUnpoured.cycle.ending = false ∧
        pausedUnpoured.claim.own = some { record7 with poured := false } ∧ pausedUnpoured.scale.pourOpen = false ∧
        pausedUnpoured.scale.pendingOpen = false) ∧
      idle.cfg.lines = some lines0 := by decide

theorem witness_PermitPauses :
    ready.running = false ∧
      (let t := { pouring with pins := setContact .p1 false pouring.pins }
       pouring.running = true ∧ permit pouring = true ∧ permit t = false ∧ pouring.cycle.state = .pouring) ∧
      (let s := { pouring with
          pins := { pouring.pins with p1 := false }, cycle := { pouring.cycle with state := .paused } }
       permit s = false ∧ permit { s with pins := setContact .p1 true s.pins } = true ∧ s.cycle.state = .paused ∧
         s.claim.trim = false ∧ nearTripStands s = false) ∧
      (idle.cycle.state = .idle ∧ idle.scale.pourOpen = false) := by decide

/-- The pour taken up again at a rise of the permit, from 0 g of its 50,000 kg; the permit at each index. -/
theorem witness_PermitPauses_enters :
    (let s := { pouring with
        pins := { pouring.pins with p1 := false }, cycle := { pouring.cycle with state := .paused },
        feed := { pouring.feed with mode := .shut } }
     let u := { s with pins := setContact .p1 true s.pins }
     s.scale.pourOpen = true ∧ pauseStands u = false ∧ u.feed.mode = .shut ∧ u.cfg.feed = some feed0 ∧
       u.claim.own = some record7 ∧ (after (.permitChange .p1 true) s).cycle.state = .pouring ∧
       (after (.permitChange .p1 true) s).feed.acc = 40000) ∧
      (idle.cfg.lines = some lines0 ∧ State.reset.cfg.lines = none ∧ permit idle = true ∧
        permit { idle with pins := setContact .p2 false idle.pins } = false) := by decide

theorem witness_AttendanceAndSettle :
    (let s := { pouring with cycle := { pouring.cycle with attendMs := some 10000 } }
     s.cycle.state ≠ .idle ∧ reached s.cycle.attendMs (attendLimit s) = true ∧
       reached (some 9999) (attendLimit s) = false) ∧ idle.cycle.state = .idle ∧
      (let s := { pouring with cycle := { pouring.cycle with
          state := .settling, settleMs := some 8000, settleOutcome := some .done } }
       s.running = true ∧ reached s.cycle.settleMs (settleLimit s) = true ∧ s.cycle.settleOutcome = some .done ∧
         s.scale.pourOpen = true ∧ s.scale.pendingClose = none ∧ s.cycle.state ≠ .halted ∧
         s.spout.state = .lowered ∧ reached (some 7999) (settleLimit s) = false) ∧
      (let s := { halted with cycle := { halted.cycle with settleMs := some 8000, settleOutcome := some .withdrawn } }
       s.cycle.state = .halted ∧ reached s.cycle.settleMs (settleLimit s) = true) ∧ idle.cycle.settleMs = none := by
  decide

/-- A stored bill. -/
def bill0 : Bill :=
  { number := 1, ident := { plan := 52, tranche := 7, hold := 5, seq := 1 }, openedAt := 3, closedAt := 9,
    netGrams := 17013, finalKg := 17, outcome := .done, lastHalt := none, quality := .clear, surge := false,
    trimPaused := false, dustPaused := false }

theorem witness_BeaconTick :
    ready.running = false ∧ (idle.running = true ∧ idle.qli.clash = false ∧ idle.qli.queue.length ≤ 2) ∧
      (let s := { selecting with travel := { selecting.travel with referenced := false } }
       attemptDue s = true ∧ stationCondition s = some .unreferenced) ∧
      (selecting.claim.state = .none ∧ (after .beaconTick selecting).claim.state = .pending) ∧
      (attemptDue selecting = true ∧ stationCondition selecting = none ∧ selecting.bills.reserved = false ∧
        selecting.plan.header = some header0 ∧ selecting.plan.tranches = [] ++ t4 :: [t5, t7] ∧
        candidate selecting t4 = true ∧ trimPasses selecting t4 = true ∧ selecting.qli.queue.length ≤ 4 ∧
        selecting.spout.state ≠ .jammed ∧ selecting.travel.state ≠ .faulted ∧ selecting.cfg.lines = some lines0 ∧
        selecting.bills.identity = none) ∧
      (let s := { selecting with plan := { plan0 with header := some { header0 with trimLimit := 0 } } }
       (∀ v ∈ s.plan.tranches, candidate s v = true → trimPasses s v = false) ∧ stationCondition s = none) ∧
      (findHold selecting t4.hold = some hold2 ∧ t4.phase = .vacant ∧
        (selecting.plan.holds.map (fun y => y.number)).Nodup ∧ (∀ y ∈ selecting.plan.holds, y.lever.natAbs ≤ 2000) ∧
        (selecting.plan.tranches.map (fun v => v.target + v.settled + (boardLive v).getD 0)).sum + t4.target ≤ 2 ^ 36) := by
  decide

/-- The free slots at a claim: 5 to 4 raises BILL_LOW, 1 to 0 BILL_FULL, 6 to 5 neither. -/
def storing (n : Nat) : State := { selecting with bills := { Bills.reset with stored := List.replicate n bill0 } }

theorem witness_BeaconTick_slots :
    [27, 31].all (fun n => attemptDue (storing n) && decide (stationCondition (storing n) = none) &&
        !(storing n).bills.reserved && candidate (storing n) t4 && trimPasses (storing n) t4) = true ∧
      (32 - (storing 27).bills.stored.length = 5 ∧ 32 - (storing 31).bills.stored.length = 1) ∧
      [26, 27, 28, 30, 31].map (fun n => (after .beaconTick (storing n)).link.flags) = [0, 32, 0, 0, 64] := by decide

/-- The BEACON of a station that pours, and of one that moves: claim, plan identity and span. -/
theorem test_beacon_fields :
    (beaconFrame pouring, beaconFrame { moving with plan := Plan.reset }) =
      (.beacon .pouring true false false false 20000 19400 20600 52 32741 7 1,
       .beacon .positioning true false false false 20000 19395 21005 0 0 7 1) := by decide

/-- A dropped CLOSE to be handed over again; a WAITING move with no selection attempt due. -/
theorem witness_BeaconTick_again :
    (let s := { closing with qli := Qli.reset }
     s.claim.state = .closing ∧ s.qli.clash = false ∧ s.qli.queue.length ≤ 3 ∧
       ∃ r, s.claim.own = some r ∧ ({ r with resend := true } : ClaimRec).resend = true ∧
         r.closeFrame = some (.close 52 7 1 .released 3 0)) ∧
      (waiting.running = true ∧ waiting.travel.state = .waiting ∧ waiting.travel.target = some 20400 ∧
        attemptDue waiting = false ∧ waiting.qli.degraded = false ∧ waiting.qli.clash = false ∧
        waiting.qli.queue.length ≤ 3 ∧
        overlapping (after .beaconTick waiting) (moveFormula waiting (position waiting) 20400) = []) := by decide

/-- The conditions of R120 in their order, and the figures of R121 for tranche 4. -/
theorem witness_BeaconTick_conditions :
    (stationCondition idle, stationCondition { selecting with qli := { Qli.reset with degraded := true } },
        stationCondition { selecting with dust := { selecting.dust with exposure := .high } },
        stationCondition { selecting with travel := { selecting.travel with referenced := false } },
        stationCondition { selecting with bills := { Bills.reset with stored := List.replicate 32 bill0 } },
        stationCondition { selecting with bills := { Bills.reset with stored := List.replicate 31 bill0 } }) =
      (some .notAgreed, some .degraded, some .dust, some .unreferenced, some .billFull, none) ∧
      (candidate selecting t5 = false ∧ candidate selecting t4 = true ∧ freeStretch selecting = some { lo := 0, hi := 65535 } ∧
        findHold selecting 2 = some hold2 ∧ hatchCentre selecting hold2 = 16150) := by decide

/-- The moments of the plan of section 6.10, by hand: tranche 7 alone, 50,000 kg at lever 200. -/
theorem test_projected_moment : momentProj selecting t7 = 10000000 ∧ momentProj selecting t4 = -6000000 := by decide

/-- A jam that stands as the claim is made halts the station, and the claim is given back. -/
theorem test_claiming_under_jam :
    (let t := after .beaconTick { selecting with spout := { state := .jammed, jam := some .drift, ms := none } }
     (t.cycle.state, t.cycle.causes, t.claim.state)) = (.halted, [.spoutDrift], .none) := by decide

/-- `selecting` with the transmit queue full of DUST frames. -/
def crammed : State :=
  { selecting with qli := { Qli.reset with queue := List.replicate 6 (freshEntry (.dust .warn 0 true 20000)) } }

theorem witness_BeaconTick_dropped :
    attemptDue crammed = true ∧ stationCondition crammed = none ∧ crammed.bills.reserved = false ∧
      crammed.qli.queue.length = 6 ∧ (∀ e ∈ crammed.qli.queue, e.frame.cls ≤ 2 ∧ e.frame.isClaim = false) ∧
      candidate crammed t4 = true ∧ trimPasses crammed t4 = true ∧ crammed.bills.identity = none ∧
      crammed.spout.state ≠ .jammed ∧ crammed.travel.state ≠ .faulted := by decide

/-- A CLAIM dropped at once ends the claim in IDLE; under a travel fault the station is HALTED all the same. -/
theorem test_claim_dropped_at_once :
    [TravelState.stopped, .faulted].map (fun st =>
      (let t := after .beaconTick { crammed with travel := { crammed.travel with state := st } }
       (t.cycle.state, t.cycle.causes, t.claim.state, t.qli.queue.length))) =
      [(.idle, [], .none, 6), (.halted, [.travelFault], .none, 6)] := by decide

theorem witness_BillRead :
    frames [] (fields []) ∧ ready.running = false ∧ (idle.running = true ∧ idle.bills.stored = []) ∧
      (let s := { idle with bills := { Bills.reset with stored := List.replicate 31 bill0, reserved := true } }
       s.bills.stored = bill0 :: List.replicate 30 bill0 ∧
         s.bills.stored.length + (if s.bills.reserved then 1 else 0) ≤ 32) :=
  ⟨fields_frames _ (by decide), rfl, by decide, by decide⟩

/-- The pour entry of section 10.8 with 25 bills left: net 18,011,640 g, final 18,012 kg, DONE, no halt, SURGE. -/
theorem test_pour_entry :
    billBytes { bill0 with
        number := 1204, ident := { plan := 60, tranche := 8, hold := 7, seq := 1 }, openedAt := 3611, closedAt := 3725,
        netGrams := 18011640, finalKg := 18012, surge := true } 25 =
      bytes [180, 4, 60, 0, 8, 7, 1, 27, 14, 0, 0, 141, 14, 0, 0, 248, 213, 18, 1, 0, 91, 70, 0, 0, 128, 2, 92, 70, 0, 0, 0, 0,
        8, 25] := by decide

/-! ### Witnesses of the laws: sound states in the midst of work that take a step -/

theorem witness_AccountKept :
    AccountLaw { pouring with pending := [.intervalEnd] } ∧
      ∃ t, step { pouring with pending := [.intervalEnd] } = .next t ∧ t.scale.total = 8359 := by
  refine ⟨by unfold AccountLaw; decide, _, rfl, by decide⟩

theorem witness_QueueKept :
    (let s := { onLine7 with pending := [.beaconTick] }
     s.qli.queue.length ≤ 6 ∧ s.qli.queue.length = 1) ∧ QueueLaw { onLine7 with pending := [.beaconTick] } ∧
      ∃ t, step { onLine7 with pending := [.beaconTick] } = .next t ∧ t.qli.queue.length = 2 :=
  ⟨by decide, by unfold QueueLaw; decide, _, rfl, by decide⟩

theorem witness_BoardKept :
    BoardLaw { merged5 with pending := [.frameHeard (.other (from_ 1 (.close 52 4 1 .done 1 60000)))] } ∧
      ∃ t, step { merged5 with pending := [.frameHeard (.other (from_ 1 (.close 52 4 1 .done 1 60000)))] } = .next t :=
  ⟨by unfold BoardLaw; decide, _, rfl⟩

theorem witness_CeilingKept :
    pouring.feed.mode ≠ .shut ∧ (∃ c, cEff pouring = some c ∧ pouring.feed.acc ≤ c) ∧
      CeilingLaw { pouring with pending := [.intervalEnd] } ∧
      ∃ t, step { pouring with pending := [.intervalEnd] } = .next t :=
  ⟨by decide, ⟨60000, by decide, by decide⟩,
    fun _ => ⟨⟨60000, by decide, by decide⟩, by decide, by decide⟩, _, rfl⟩

theorem witness_DriveKept :
    moveWanted moving.travel.state = true ∧ moving.travel.held = true ∧ DriveLaw { moving with pending := [.halt (fields [])] } ∧
      ∃ t, step { moving with pending := [.halt (fields [])] } = .next t :=
  ⟨rfl, rfl, by unfold DriveLaw; decide, _, rfl⟩

theorem witness_BoardNeverGoesBack :
    (∀ u ∈ merged5.plan.tranches, u.settled ≤ 4294967295) ∧ BoardLaw { merged5 with pending := [.noteTick] } ∧
      ∃ t, step { merged5 with pending := [.noteTick] } = .next t :=
  ⟨by decide, by unfold BoardLaw; decide, _, rfl⟩

end Sys2Proof.Tests
end

section
/-! PROOF. The interval tally (R8): what each step of an interval end makes of the scale, the tally's arithmetic, and
obligation O12. -/

namespace Sys2Proof.Machine

/-! ### The scale through the steps of an interval end -/

/-- After RUN an interval end is the whole of log 7. -/
theorem exec_intervalEnd_of_running {s : State} (h : s.running = true) :
    exec .intervalEnd s = .next (intervalEnd s) := by
  change execIntervalEnd s = _
  rw [execIntervalEnd, if_pos h]

@[simp] theorem creditInterval_fine (s : State) : (creditInterval s).scale.fine = tally s % 1024 := by
  simp [creditInterval]

@[simp] theorem endCalibration_fine (r : ZeroResult) (s : State) :
    (endCalibration r s).scale.fine = s.scale.fine := by
  simp [endCalibration]

/-- R18: during a calibration the tally goes on; a new working zero leaves the remainder alone. -/
@[simp] theorem calibrate_fine (s : State) : (calibrate s).scale.fine = s.scale.fine := by
  unfold calibrate
  dsimp only
  split_ifs <;> simp

/-- R13: an opening starts the open-pour grams afresh and touches no other counter. -/
@[simp] theorem openPour_scale (s : State) :
    (openPour s).scale =
      { s.scale with pourOpen := true, pendingOpen := false, openGrams := 0, quality := .clear } := by
  unfold openPour
  dsimp only
  split_ifs <;> simp

/-- R14: of all that a closing sets off, only the Scale Unit's own part changes the scale. -/
@[simp] theorem closePour_scale (o : PourOutcome) (s : State) : (closePour o s).scale = closeScale s.scale := by
  simp [closePour]

@[simp] theorem closeScale_fine (sc : Scale) : (closeScale sc).fine = sc.fine := rfl

/-- The remainder belongs to the scale, not to a pour: it carries across an opening and a closing (section 1.4). -/
@[simp] theorem openOrClose_fine (s : State) : (openOrClose s).scale.fine = s.scale.fine := by
  unfold openOrClose
  split
  next => split <;> simp
  next => split_ifs <;> simp

/-! ### The interval end as three stages -/

/-- The open-pour grams the snapshot record of the interval shows: 0 for stray (R20). -/
def creditedGrams (s : State) : Nat :=
  if s.scale.pourOpen then (calibrate (creditInterval s)).scale.openGrams else 0

/-- The state after an interval end's opening or closing, before the snapshot record and the interval that begins. -/
def closedInterval (s : State) : State :=
  openOrClose (trimInterval
    (regulateInterval s.scale.pourOpen (intervalGrams s) (calibrate (creditInterval s))))

theorem intervalEnd_eq (s : State) :
    intervalEnd s = nextInterval (intervalFlags s)
      { closedInterval s with scale := { (closedInterval s).scale with
          snapshot := some (snapshotOf s (creditedGrams s) (closedInterval s)) } } := by
  simp only [intervalEnd, closedInterval, creditedGrams]

/-- Of all the steps only the crediting sets the remainder. -/
@[simp] theorem closedInterval_fine (s : State) : (closedInterval s).scale.fine = tally s % 1024 := by
  simp [closedInterval]

theorem intervalEnd_fine (s : State) : (intervalEnd s).scale.fine = tally s % 1024 := by
  simp [intervalEnd_eq, nextInterval_scale]

theorem intervalEnd_pulses (s : State) : (intervalEnd s).scale.pulses = 0 := by
  simp [intervalEnd_eq, nextInterval_scale]

theorem intervalEnd_snapshot (s : State) :
    (intervalEnd s).scale.snapshot = some (snapshotOf s (creditedGrams s) (closedInterval s)) := by
  simp [intervalEnd_eq, nextInterval_scale]

/-! ### The arithmetic of R8 -/

/-- The largest product of R8: 4,095 × 255 × 65,535. -/
theorem intervalProduct_le {load pulses span : Nat} (z : Nat) (hload : load ≤ 4095) (hpulses : pulses ≤ 255)
    (hspan : span ≤ 65535) : (load - z) * pulses * span ≤ 68433285375 :=
  calc (load - z) * pulses * span
      ≤ 4095 * 255 * 65535 :=
        Nat.mul_le_mul (Nat.mul_le_mul ((Nat.sub_le load z).trans hload) hpulses) hspan
    _ = 68433285375 := by norm_num

/-- A load reading at or below the working zero weighs nothing: n is clamped to 0. -/
theorem intervalProduct_of_load_le_zero {load z : Nat} (pulses span : Nat) (h : load ≤ z) :
    (load - z) * pulses * span = 0 := by
  rw [Nat.sub_eq_zero_of_le h, Nat.zero_mul, Nat.zero_mul]

/-- A stationary belt leaves t at the remainder carried in, whatever the load. -/
theorem tally_of_no_pulses {s : State} (h : s.scale.pulses = 0) : tally s = s.scale.fine := by
  rw [tally, tallyOf, h, Nat.mul_zero, Nat.zero_mul, Nat.add_zero]

/-- A stationary belt adds no mass: the remainder carried in is less than a gram. -/
theorem intervalGrams_of_no_pulses {s : State} (hpulses : s.scale.pulses = 0) (hcarry : s.scale.fine ≤ 1023) :
    intervalGrams s = 0 := by
  rw [intervalGrams, tally_of_no_pulses hpulses]
  exact Nat.div_eq_of_lt (Nat.lt_succ_of_le hcarry)

end Sys2Proof.Machine

open Sys2Proof Sys2Proof.Machine

/-- Settles O12: the crediting alone sets the remainder and every later step of the interval end keeps it, so the rest
is the arithmetic of R8. -/
theorem intervalTally : Obligations.IntervalTally := by
  unfold Obligations.IntervalTally
  intro s hrun
  refine ⟨intervalEnd s, _, exec_intervalEnd_of_running hrun, intervalEnd_snapshot s, ?_⟩
  have hfine : (intervalEnd s).scale.fine = tally s % 1024 := intervalEnd_fine s
  refine ⟨rfl, hfine, (closedInterval_fine s).trans hfine.symm, ?bounded, rfl, rfl, intervalEnd_pulses s, ?largest,
    intervalProduct_of_load_le_zero _ _, ?stationary⟩
  case bounded =>
    rw [hfine]
    exact Nat.le_of_lt_succ (Nat.mod_lt _ (by norm_num))
  case largest =>
    intro hload hpulses hspan hcarry
    have hm := intervalProduct_le (workingZero s) hload hpulses hspan
    have ht : tally s ≤ 68433286398 := Nat.add_le_add hcarry hm |>.trans (by norm_num)
    exact ⟨hm, ht, Nat.div_le_div_right (c := 1024) ht⟩
  case stationary =>
    intro hpulses hcarry
    refine ⟨intervalGrams_of_no_pulses hpulses hcarry, ?_⟩
    rw [hfine, tally_of_no_pulses hpulses]
    exact Nat.mod_eq_of_lt (Nat.lt_succ_of_le hcarry)

end

section
/-! PROOF. One reading of a dust head (R48 to R51): what it makes of the history, the latch, the average level and the
fault flag, which event flags it raises, and obligation O23. -/

namespace Sys2Proof.Machine

/-! ### The history and its mean (R48) -/

/-- A head that has answered a reading holds one. -/
theorem pushReading_length_ne_zero (r : Nat) (history : List Nat) : (pushReading r history).length ≠ 0 := by
  simp only [pushReading, List.length_drop, List.length_append, List.length_singleton]
  omega

theorem average_readHead (c : DustCfg) (r : Nat) (h : Head) :
    average (readHead c r h) =
      some ((readHead c r h).history.sum / (readHead c r h).history.length) :=
  if_neg (pushReading_length_ne_zero r h.history)

/-! ### The trip test (R49) -/

theorem readHead_latch (c : DustCfg) (r : Nat) (h : Head) :
    (readHead c r h).latch = true ↔ h.latch = true ∨ c.tripOn ≤ r := by
  simp [readHead]

theorem readHead_avgLevel_of_trip {c : DustCfg} {r : Nat} (h : Head) (htrip : c.tripOn ≤ r) :
    (readHead c r h).avgLevel = h.avgLevel :=
  if_pos (decide_eq_true htrip)

/-- A reading that does not trip moves the average level from the one held, by the new average. -/
theorem readHead_avgLevel_of_lt {c : DustCfg} {r : Nat} (h : Head) (hbelow : r < c.tripOn) :
    (readHead c r h).avgLevel =
      nextLevel c h.avgLevel ((readHead c r h).history.sum / (readHead c r h).history.length) := by
  have hno : ¬ decide (c.tripOn ≤ r) = true := by simpa using hbelow
  exact if_neg hno

/-! ### The rows of the average level table (R50) -/

section Rows

variable {c : DustCfg} {avg : Nat}

theorem nextLevel_clear_high (h : c.highOn ≤ avg) : nextLevel c .clear avg = .high := if_pos h

theorem nextLevel_clear_warn (hon : c.warnOn ≤ avg) (hlow : avg < c.highOn) : nextLevel c .clear avg = .warn :=
  (if_neg hlow.not_ge).trans (if_pos hon)

theorem nextLevel_clear_clear (hord : c.warnOn ≤ c.highOn) (h : avg < c.warnOn) : nextLevel c .clear avg = .clear :=
  (if_neg (h.trans_le hord).not_ge).trans (if_neg h.not_ge)

theorem nextLevel_warn_high (h : c.highOn ≤ avg) : nextLevel c .warn avg = .high := if_pos h

theorem nextLevel_warn_clear (hord : c.warnOff ≤ c.highOn) (h : avg < c.warnOff) : nextLevel c .warn avg = .clear :=
  (if_neg (h.trans_le hord).not_ge).trans (if_pos h)

theorem nextLevel_warn_warn (hoff : c.warnOff ≤ avg) (hlow : avg < c.highOn) : nextLevel c .warn avg = .warn :=
  (if_neg hlow.not_ge).trans (if_neg hoff.not_gt)

theorem nextLevel_high_clear (h : avg < c.warnOff) : nextLevel c .high avg = .clear := if_pos h

theorem nextLevel_high_warn (hoff : c.warnOff ≤ avg) (hlow : avg < c.highOff) : nextLevel c .high avg = .warn :=
  (if_neg hoff.not_gt).trans (if_pos hlow)

theorem nextLevel_high_high (hord : c.warnOff ≤ c.highOff) (h : c.highOff ≤ avg) : nextLevel c .high avg = .high :=
  (if_neg (hord.trans h).not_gt).trans (if_neg h.not_gt)

end Rows

/-! ### The fault test (R51) -/

theorem outOfBand_iff (r : Nat) : outOfBand r = true ↔ r ≤ 8 ∨ 4088 ≤ r := by
  simp [outOfBand]

section FaultTest

variable {n r : Nat}

theorem faultStep_clear_inBand (h : ¬ outOfBand r = true) : faultStep false n r = (false, 0) := by
  simp [faultStep, h]

theorem faultStep_clear_counts (h : outOfBand r = true) (hn : n < 2) : faultStep false n r = (false, n + 1) := by
  simp [faultStep, h, hn.ne]

theorem faultStep_clear_third (h : outOfBand r = true) : faultStep false 2 r = (true, 0) := by
  simp [faultStep, h]

theorem faultStep_set_outOfBand (h : outOfBand r = true) : faultStep true n r = (true, 0) := by
  simp [faultStep, h]

theorem faultStep_set_counts (h : ¬ outOfBand r = true) (hn : n < 2) : faultStep true n r = (true, n + 1) := by
  simp [faultStep, h, hn.ne]

theorem faultStep_set_third (h : ¬ outOfBand r = true) : faultStep true 2 r = (false, 0) := by
  simp [faultStep, h]

end FaultTest

/-- The fault flag and count after a reading, once the fault test's outcome is known. -/
theorem readHead_fault_of_faultStep {r : Nat} {h : Head} (c : DustCfg) {fault held : Bool} {count n : Nat}
    (hheld : h.fault = held) (hcount : h.faultCount = n) (hstep : faultStep held n r = (fault, count)) :
    (readHead c r h).fault = fault ∧ (readHead c r h).faultCount = count := by
  subst hheld hcount
  exact ⟨congrArg Prod.fst hstep, congrArg Prod.snd hstep⟩

/-! ### A head after a reading, and the flags of one (R48 to R51) -/

theorem readHead_asRuled (c : DustCfg) (r : Nat) (h : Head) : readAsRuled c r h (readHead c r h) := by
  unfold readAsRuled
  simp only [← outOfBand_iff]
  refine ⟨fun hshort => pushReading_of_short hshort r, ?full, average_readHead c r h, readHead_latch c r h, readHead_avgLevel_of_trip h,
    ?level, ?clear, ?set⟩
  case full =>
    intro w x y z hfull
    change pushReading r h.history = _
    rw [hfull, pushReading_of_full]
  case level =>
    intro hbelow _ _ _
    rw [readHead_avgLevel_of_lt h hbelow]
    refine ⟨?_, ?_, ?_⟩ <;> (intro hheld; rw [hheld]; rfl)
  case clear =>
    intro hf
    exact ⟨fun hr => readHead_fault_of_faultStep c hf rfl (faultStep_clear_inBand hr),
      fun hr hn => readHead_fault_of_faultStep c hf rfl (faultStep_clear_counts hr hn),
      fun hr hn => readHead_fault_of_faultStep c hf hn (faultStep_clear_third hr)⟩
  case set =>
    intro hf
    exact ⟨fun hr => readHead_fault_of_faultStep c hf rfl (faultStep_set_outOfBand hr),
      fun hr hn => readHead_fault_of_faultStep c hf rfl (faultStep_set_counts hr hn),
      fun hr hn => readHead_fault_of_faultStep c hf hn (faultStep_set_third hr)⟩

theorem processReading_heads (c : DustCfg) (k r : Nat) (s : State) :
    (processReading c k r s).dust.heads = s.dust.heads.set k (readHead c r (headAt s k)) := by
  simp [processReading]

theorem headAt_processReading_same (c : DustCfg) {k : Nat} (r : Nat) {s : State} (hk : k < s.dust.heads.length) :
    headAt (processReading c k r s) k = readHead c r (headAt s k) := by
  rw [headAt, processReading_heads, List.getD_eq_getElem?_getD, List.getElem?_set_self hk, Option.getD_some]

theorem headAt_processReading_other (c : DustCfg) {k j : Nat} (r : Nat) (s : State) (hj : j ≠ k) :
    headAt (processReading c k r s) j = headAt s j := by
  simp only [headAt, processReading_heads, List.getD_eq_getElem?_getD, List.getElem?_set_ne hj.symm]

/-- The two events of a reading, HEAD_FAULT at the setting of the fault flag and DUST_TRIP at that of the latch, raise
their own flags and no other. -/
theorem hasFlag_processReading (e : Event) (c : DustCfg) (k r : Nat) (s : State) :
    hasFlag e (processReading c k r s) ↔
      hasFlag e s ∨
      (e = .dustTrip ∧ (headAt s k).latch = false ∧ (readHead c r (headAt s k)).latch = true) ∨
      (e = .headFault ∧ (headAt s k).fault = false ∧ (readHead c r (headAt s k)).fault = true) := by
  simp only [hasFlag, processReading, raiseIf_flag, Bool.or_eq_true, Bool.and_eq_true, Bool.not_eq_true',
    decide_eq_true_eq]
  tauto

theorem hasFlag_headFault_processReading (c : DustCfg) (k r : Nat) (s : State) :
    hasFlag .headFault (processReading c k r s) ↔
      hasFlag .headFault s ∨ (headAt s k).fault = false ∧ (readHead c r (headAt s k)).fault = true := by
  simp [hasFlag_processReading]

/-- A trip raises DUST_TRIP at a head whose latch is clear, and nothing at one whose latch is set. -/
theorem hasFlag_dustTrip_processReading (c : DustCfg) (k r : Nat) (s : State) :
    hasFlag .dustTrip (processReading c k r s) ↔
      hasFlag .dustTrip s ∨ (headAt s k).latch = false ∧ c.tripOn ≤ r := by
  have hset : (headAt s k).latch = false ∧ (readHead c r (headAt s k)).latch = true ↔
      (headAt s k).latch = false ∧ c.tripOn ≤ r := by
    rw [readHead_latch]
    exact and_congr_right fun hclear => by simp [hclear]
  simp [hasFlag_processReading, hset]

end Sys2Proof.Machine

open Sys2Proof Sys2Proof.Machine

/-- Settles O23: below trip_on the average level moves by one row of the table for the level held and the new average; the
thresholds' order makes the rows whole. The rest is one head's reading, put back at its own place. -/
theorem averageLevelTable : Obligations.AverageLevelTable := by
  unfold Obligations.AverageLevelTable
  intro c r h hwarn hmid hhigh
  refine ⟨?table, readHead_asRuled c r h, fun k j s hj => headAt_processReading_other c r s hj,
    fun k s => ⟨headAt_processReading_same c r, hasFlag_headFault_processReading c k r s,
      hasFlag_dustTrip_processReading c k r s⟩⟩
  case table =>
    intro avg now
    have havg : (readHead c r h).history.sum / (readHead c r h).history.length = avg := by
      simp only [avg, average_readHead, Option.getD_some]
    have hnow : r < c.tripOn → ∀ {held}, h.avgLevel = held → now = nextLevel c held avg := by
      rintro hbelow _ rfl
      rw [← havg]
      exact readHead_avgLevel_of_lt h hbelow
    exact ⟨fun hr hheld h1 => (hnow hr hheld).trans (nextLevel_clear_high h1),
      fun hr hheld h1 h2 => (hnow hr hheld).trans (nextLevel_clear_warn h1 h2),
      fun hr hheld h1 => (hnow hr hheld).trans (nextLevel_clear_clear (by omega) h1),
      fun hr hheld h1 => (hnow hr hheld).trans (nextLevel_warn_high h1),
      fun hr hheld h1 => (hnow hr hheld).trans (nextLevel_warn_clear (by omega) h1),
      fun hr hheld h1 h2 => (hnow hr hheld).trans (nextLevel_warn_warn h1 h2),
      fun hr hheld h1 => (hnow hr hheld).trans (nextLevel_high_clear h1),
      fun hr hheld h1 h2 => (hnow hr hheld).trans (nextLevel_high_warn h1 h2),
      fun hr hheld h1 => (hnow hr hheld).trans (nextLevel_high_high (by omega) h1),
      fun htrip => ⟨readHead_avgLevel_of_trip h htrip, (readHead_latch c r h).mpr (.inr htrip)⟩⟩

end

section
/-! PROOF. Automatic work and a calibration never overlap (R159, R17): START and ZERO SCALE are the only commands that
begin one of the two, each refuses while the other stands, and obligation O45. -/

namespace Sys2Proof.Machine

/-! ### Beginning neither -/

/-- From `s` to `t` neither automatic work nor a calibration begins: what stands in `t` stood in `s`. -/
def beginsNeither (s t : State) : Prop :=
  (t.cycle.auto = true → s.cycle.auto = true) ∧ (t.scale.calRunning = true → s.scale.calRunning = true)

theorem beginsNeither.refl (s : State) : beginsNeither s s := ⟨id, id⟩

theorem beginsNeither.trans {s t u : State} (h : beginsNeither s t) (h' : beginsNeither t u) : beginsNeither s u :=
  ⟨h.1 ∘ h'.1, h.2 ∘ h'.2⟩

theorem beginsNeither_ite {c : Prop} [Decidable c] {s t u : State} (ht : beginsNeither s t) (hu : beginsNeither s u) :
    beginsNeither s (if c then t else u) := by
  split <;> assumption

/-- A guarded act: where the guard fails the state stays as it is. -/
theorem beginsNeither_guard {c : Prop} [Decidable c] {s t : State} (ht : beginsNeither s t) :
    beginsNeither s (if c then t else s) :=
  beginsNeither_ite ht (.refl s)

theorem AutoLaw.of_beginsNeither {s t : State} (hs : AutoLaw s) (h : beginsNeither s t) : AutoLaw t := by
  obtain ⟨hauto, hcal⟩ := h
  intro ht
  have hfree : s.scale.calRunning = false := hs (hauto ht)
  exact Bool.eq_false_iff.mpr fun hbusy => Bool.eq_false_iff.mp hfree (hcal hbusy)

/-- Whatever state an outcome gives, neither begins on the way to it from `s`. -/
def outcomeBeginsNeither (s : State) (o : Host.Outcome State Fault Refusal) : Prop :=
  ∀ t, o = .next t → beginsNeither s t

theorem outcomeBeginsNeither.next {s t : State} (h : beginsNeither s t) : outcomeBeginsNeither s (.next t) := by
  intro u hu
  rwa [← Host.Outcome.next.inj hu]

theorem outcomeBeginsNeither.fault (s : State) (f : Fault) : outcomeBeginsNeither s (.fault f) := by
  simp [outcomeBeginsNeither]

/-! ### Host commands (R189, R190) -/

/-- R189: what a frame that names a command gives: the refusal of its length, or its command's own rule and answer. -/
theorem hostCommand_cases (code : Byte) (fits : List Byte → Bool) (rest : List Byte)
    (body : List Byte → State → State × Answer) (s : State) :
    hostCommand code fits rest body s = respond code (refuse .badLength) (shiftFrame (rest.length + 1) s) ∨
      ∃ fs, hostCommand code fits rest body s =
        respond code (body fs (shiftFrame (rest.length + 1) s)).2 (body fs (shiftFrame (rest.length + 1) s)).1 := by
  unfold hostCommand
  split
  next => exact .inl rfl
  next fs _ => exact .inr ⟨fs, rfl⟩

theorem respond_beginsNeither (code : Byte) (a : Answer) (s : State) : beginsNeither s (respond code a s) := by
  simp [beginsNeither]

theorem shiftFrame_beginsNeither (n : Nat) (s : State) : beginsNeither s (shiftFrame n s) := by
  simp [beginsNeither]

theorem hostCommand_beginsNeither {code : Byte} {fits : List Byte → Bool} {rest : List Byte}
    {body : List Byte → State → State × Answer} {s : State} (h : ∀ fs u, beginsNeither u (body fs u).1) :
    outcomeBeginsNeither s (.next (hostCommand code fits rest body s)) := by
  refine .next ?_
  have hshift := shiftFrame_beginsNeither (rest.length + 1) s
  obtain heq | ⟨fs, heq⟩ := hostCommand_cases code fits rest body s <;> rw [heq]
  · exact hshift.trans (respond_beginsNeither ..)
  · exact (hshift.trans (h fs _)).trans (respond_beginsNeither ..)

theorem afterRun_beginsNeither {body : State → State × Answer} {s : State} (h : beginsNeither s (body s).1) :
    beginsNeither s (afterRun body s).1 := by
  unfold afterRun
  split
  next => exact h
  next => exact .refl s

/-- A command taken after RUN only. -/
theorem runningCommand_beginsNeither {code : Byte} {fits : List Byte → Bool} {rest : List Byte}
    {body : List Byte → State → State × Answer} {s : State} (h : ∀ fs u, beginsNeither u (body fs u).1) :
    outcomeBeginsNeither s (.next (hostCommand code fits rest (fun fs => afterRun (body fs)) s)) :=
  hostCommand_beginsNeither fun fs u => afterRun_beginsNeither (h fs u)

theorem inBuilding_beginsNeither {body : State → State × Answer} {s : State} (h : beginsNeither s (body s).1) :
    beginsNeither s (inBuilding body s).1 := by
  unfold inBuilding
  split
  next => exact .refl s
  next => exact h
  next => exact .refl s

/-! ### Configuration, RUN and the event commands -/

theorem judgeSection_beginsNeither {α : Type} {parsed : Option α} {accept : α → State → State} {s : State}
    (h : ∀ c, beginsNeither s (accept c s)) : beginsNeither s (judgeSection parsed accept s).1 := by
  unfold judgeSection
  split
  next c => exact h c
  next => exact .refl s

theorem setConfig_beginsNeither (fs : List Byte) (s : State) : beginsNeither s (setConfig fs s).1 := by
  unfold setConfig
  split
  next => exact .refl s
  next =>
    dsimp only
    split
    case h_7 => exact .refl s
    all_goals exact judgeSection_beginsNeither fun c => by simp [beginsNeither]

/-- R86: the entries that fall silent at RUN are the Peer Table's and the event flags' alone. -/
theorem silenceOld_beginsNeither (s : State) : beginsNeither s (silenceOld s) := by
  unfold silenceOld
  refine List.foldlRecOn (motive := beginsNeither s) _ _ (.refl s) fun t ht i _ => ?_
  exact beginsNeither_ite (ht.trans (by simp [beginsNeither])) ht

theorem startRunning_beginsNeither (s : State) : beginsNeither s (startRunning s) := by
  have hold := silenceOld_beginsNeither (endLineWindow { s with running := true, seconds := 0, base := 0 })
  simpa [beginsNeither, startRunning] using hold

theorem runPart_beginsNeither (fs : List Byte) (s : State) : beginsNeither s (runPart fs s).1 := by
  unfold runPart
  split_ifs
  case neg => exact startRunning_beginsNeither s
  all_goals exact .refl s

theorem readStatus_beginsNeither (fs : List Byte) (s : State) : beginsNeither s (readStatus fs s).1 := by
  unfold readStatus
  split <;> exact .refl s

/-! ### Feed, dust, peers -/

theorem readSnapshot_beginsNeither (fs : List Byte) (s : State) : beginsNeither s (readSnapshot fs s).1 := by
  unfold readSnapshot
  split <;> exact .refl s

theorem setFeed_beginsNeither (fs : List Byte) (s : State) : beginsNeither s (setFeed fs s).1 := by
  unfold setFeed
  split <;> exact .refl s

theorem ackDust_beginsNeither (fs : List Byte) (s : State) : beginsNeither s (ackDust fs s).1 := by
  unfold ackDust
  split
  next => simp [beginsNeither]
  next => exact .refl s

theorem patternStep_beginsNeither (s : State) : outcomeBeginsNeither s (execPatternStep s) := by
  refine .next ?_
  split
  next => exact beginsNeither_guard (.refl s)
  next => exact .refl s

theorem readPeer_beginsNeither (fs : List Byte) (s : State) : beginsNeither s (readPeer fs s).1 := by
  unfold readPeer
  dsimp only
  split <;> exact .refl s

theorem forgetPeer_beginsNeither (fs : List Byte) (s : State) : beginsNeither s (forgetPeer fs s).1 := by
  unfold forgetPeer
  dsimp only
  split
  next => exact .refl s
  next => split <;> simp [beginsNeither]

/-! ### The plan and the board -/

theorem loadPlan_beginsNeither (fs : List Byte) (s : State) : beginsNeither s (loadPlan fs s).1 := by
  unfold loadPlan
  dsimp only
  split_ifs <;> exact .refl s

theorem addHold_beginsNeither (fs : List Byte) (s : State) : beginsNeither s (addHold fs s).1 := by
  unfold addHold
  dsimp only
  split_ifs <;> exact .refl s

theorem addTranche_beginsNeither (fs : List Byte) (s : State) : beginsNeither s (addTranche fs s).1 := by
  unfold addTranche
  dsimp only
  split_ifs <;> exact .refl s

theorem refuseSeal_beginsNeither (check : Nat) (id : Option Nat) (s : State) :
    beginsNeither s (refuseSeal check id s).1 := by
  unfold refuseSeal
  split <;> exact .refl s

theorem sealPlan_beginsNeither (fs : List Byte) (s : State) : beginsNeither s (sealPlan fs s).1 := by
  unfold sealPlan
  split
  next => exact refuseSeal_beginsNeither _ _ s
  next => simp [beginsNeither]
  next => exact .refl s

theorem closePlan_beginsNeither (fs : List Byte) (s : State) : beginsNeither s (closePlan fs s).1 := by
  unfold closePlan
  split
  case h_4 => split <;> simp [beginsNeither]
  all_goals simp [beginsNeither]

theorem readTranche_beginsNeither (fs : List Byte) (s : State) : beginsNeither s (readTranche fs s).1 := by
  unfold readTranche
  repeat' split
  all_goals exact .refl s

theorem takeover_beginsNeither (fs : List Byte) (s : State) : beginsNeither s (takeover fs s).1 := by
  unfold takeover
  repeat' split
  all_goals simp [beginsNeither]

/-! ### Travel -/

theorem homeTower_beginsNeither (fs : List Byte) (s : State) : beginsNeither s (homeTower fs s).1 := by
  unfold homeTower
  split <;> simp [beginsNeither]

theorem mooringShift_beginsNeither (fs : List Byte) (s : State) : beginsNeither s (mooringShift fs s).1 := by
  unfold mooringShift
  split <;> simp [beginsNeither]

theorem encoderEdge_beginsNeither (m : Motion) (s : State) : outcomeBeginsNeither s (execEncoderEdge m s) := by
  refine .next ?_
  cases m <;> simp [beginsNeither]

theorem restTimeEnd_beginsNeither (s : State) : outcomeBeginsNeither s (execRestTimeEnd s) :=
  .next (beginsNeither_guard (beginsNeither_ite (by simp [beginsNeither]) (by simp [beginsNeither])))

/-! ### The pour cycle -/

theorem clearSpout_beginsNeither {s t : State} (h : clearSpout s = some t) : beginsNeither s t := by
  unfold clearSpout at h
  repeat' split at h
  all_goals simp only [Option.some.injEq, reduceCtorEq] at h
  all_goals rw [← h]; exact .refl s

/-- R170: of the state the steps before a halt is left change only the spout and the travel fault. -/
theorem haltSteps_beginsNeither {s t : State} (h : haltSteps s = some t) : beginsNeither s t := by
  unfold haltSteps at h
  split at h
  next => simp at h
  next =>
    split at h
    next => simp at h
    next u hu =>
      rw [← Option.some.inj h]
      exact (clearSpout_beginsNeither hu).trans (by simp [beginsNeither])

theorem stopHalted_beginsNeither (s : State) : beginsNeither s (stopHalted s) := by
  unfold stopHalted
  split
  next t ht => exact (haltSteps_beginsNeither ht).trans (by simp [beginsNeither])
  next => exact .refl s

theorem stopFrom_beginsNeither (s : State) : beginsNeither s (stopFrom s) := by
  unfold stopFrom
  split
  case h_8 => exact stopHalted_beginsNeither s
  all_goals simp [beginsNeither]

/-- R172: STOP ends automatic work. -/
theorem stopTower_beginsNeither (fs : List Byte) (s : State) : beginsNeither s (stopTower fs s).1 := by
  have hclear : beginsNeither s { s with cycle := { s.cycle with auto := false } } := ⟨nofun, id⟩
  exact hclear.trans (stopFrom_beginsNeither _)

theorem haltTower_beginsNeither (fs : List Byte) (s : State) : beginsNeither s (haltTower fs s).1 := by
  unfold haltTower
  split <;> simp [beginsNeither]

theorem clearHalt_beginsNeither (fs : List Byte) (s : State) : beginsNeither s (clearHalt fs s).1 := by
  unfold clearHalt
  split
  next =>
    split
    next t ht => exact (clearSpout_beginsNeither ht).trans (by simp [beginsNeither])
    next => exact .refl s
  next =>
    split
    next t ht => exact (haltSteps_beginsNeither ht).trans (by simp [beginsNeither])
    next => exact .refl s
  next => exact .refl s

theorem withdrawTower_beginsNeither (fs : List Byte) (s : State) : beginsNeither s (withdrawTower fs s).1 := by
  unfold withdrawTower
  split
  next => simp [beginsNeither]
  next =>
    split
    next t ht => exact (haltSteps_beginsNeither ht).trans (by simp [beginsNeither])
    next => exact .refl s
  next => exact .refl s

theorem keepAttended_beginsNeither (fs : List Byte) (s : State) : beginsNeither s (keepAttended fs s).1 := by
  simp [beginsNeither, keepAttended]

theorem readBill_beginsNeither (fs : List Byte) (s : State) : beginsNeither s (readBill fs s).1 := by
  unfold readBill
  split <;> exact .refl s

theorem readSummary_beginsNeither (fs : List Byte) (s : State) : beginsNeither s (readSummary fs s).1 := by
  unfold readSummary
  repeat' split
  all_goals exact .refl s

/-! ### The interval end and the converter -/

@[simp] theorem creditInterval_calRunning (s : State) :
    (creditInterval s).scale.calRunning = s.scale.calRunning := by
  simp [creditInterval, creditScale]

/-- R18: with no calibration running an interval end has none to count on, and starts none. -/
theorem calibrate_of_free {s : State} (h : s.scale.calRunning = false) : calibrate s = s := by
  simp [calibrate, h]

@[simp] theorem openOrClose_calRunning (s : State) :
    (openOrClose s).scale.calRunning = s.scale.calRunning := by
  unfold openOrClose
  split
  next => split <;> simp [closeScale]
  next => split_ifs <;> simp

theorem intervalEnd_beginsNeither (s : State) : beginsNeither s (intervalEnd s) := by
  refine ⟨by simp, fun h => ?_⟩
  have hcal : (calibrate (creditInterval s)).scale.calRunning = true := by
    simpa [intervalEnd_eq, closedInterval] using h
  by_contra hfree
  rw [calibrate_of_free (by simpa using hfree)] at hcal
  exact hfree (by simpa using hcal)

theorem conversionEnd_beginsNeither (level : Int) (s : State) :
    outcomeBeginsNeither s (execConversionEnd level s) := by
  refine .next ?_
  split <;> simp [beginsNeither]

/-! ### The quay line -/

theorem lineWindowEnd_beginsNeither (s : State) : outcomeBeginsNeither s (execLineWindowEnd s) :=
  .next (beginsNeither_ite (.refl s) (beginsNeither_ite (by simp [beginsNeither]) (by simp [beginsNeither])))

theorem noteTick_beginsNeither (s : State) : outcomeBeginsNeither s (execNoteTick s) := by
  refine .next ?_
  split <;> simp [beginsNeither]

/-- R78: the owners of the frames discarded are told, and none of them begins anything. -/
theorem emptyQueue_beginsNeither (s : State) : beginsNeither s (emptyQueue s) := by
  unfold emptyQueue
  refine List.foldlRecOn (motive := beginsNeither s) _ _ (.refl s) fun t ht e _ => ?_
  exact ht.trans (by simp [beginsNeither])

theorem clashFound_beginsNeither (s : State) : beginsNeither s (clashFound s) := by
  unfold clashFound
  refine beginsNeither.trans ?_ (emptyQueue_beginsNeither _)
  split <;> simp [beginsNeither]

theorem otherFrame_beginsNeither (f : RxFrame) (s : State) : beginsNeither s (otherFrame f s) := by
  unfold otherFrame
  split_ifs
  case neg =>
    dsimp only
    split
    next => simp [beginsNeither]
    next g _ =>
      split_ifs
      · simp [beginsNeither]
      · exact clashFound_beginsNeither _
      · simp [beginsNeither]
  all_goals simp [beginsNeither]

theorem frameHeard_beginsNeither (h : Heard) (s : State) : outcomeBeginsNeither s (execFrameHeard h s) := by
  cases h with
  | ownEcho => exact .next (by simp [beginsNeither])
  | other f =>
    unfold execFrameHeard
    dsimp only
    split
    next => exact .fault s .illFormed
    next => exact .next (otherFrame_beginsNeither f s)

theorem unknownCommand_beginsNeither (code : Byte) (rest : List Byte) (s : State) :
    outcomeBeginsNeither s (execUnknownCommand code rest s) := by
  unfold execUnknownCommand
  split
  next => exact .fault s .illFormed
  next => exact .next (by simp [beginsNeither])

/-! ### Every command and every millisecond -/

theorem exec_beginsNeither (s : State) (i : Instr) (hstart : ∀ rest, i ≠ .start rest)
    (hzero : ∀ rest, i ≠ .zeroScale rest) : outcomeBeginsNeither s (exec i s) := by
  cases i with
  | start rest => exact absurd rfl (hstart rest)
  | zeroScale rest => exact absurd rfl (hzero rest)
  -- frames without a command, and RESET
  | reset => exact .next ⟨nofun, nofun⟩
  | noOperationFrame => exact .next (beginsNeither_ite (by simp [beginsNeither]) (by simp [beginsNeither]))
  | unknownCommand code rest => exact unknownCommand_beginsNeither code rest s
  | linkFrameDiscarded => exact .next (.refl s)
  | frameOfNoBytes => exact .next (by simp [beginsNeither])
  -- host commands taken before RUN as after
  | setConfig => exact hostCommand_beginsNeither setConfig_beginsNeither
  | run => exact hostCommand_beginsNeither runPart_beginsNeither
  | setEvents | readEvents | clearEvents => exact hostCommand_beginsNeither fun _ => .refl
  | readStatus => exact hostCommand_beginsNeither readStatus_beginsNeither
  | readPeer => exact hostCommand_beginsNeither readPeer_beginsNeither
  -- host commands taken after RUN
  | readSnapshot => exact runningCommand_beginsNeither readSnapshot_beginsNeither
  | setFeed => exact runningCommand_beginsNeither setFeed_beginsNeither
  | ackDust => exact runningCommand_beginsNeither ackDust_beginsNeither
  | forgetPeer => exact runningCommand_beginsNeither forgetPeer_beginsNeither
  | loadPlan => exact runningCommand_beginsNeither loadPlan_beginsNeither
  | addHold => exact runningCommand_beginsNeither fun fs u => inBuilding_beginsNeither (addHold_beginsNeither fs u)
  | addTranche =>
    exact runningCommand_beginsNeither fun fs u => inBuilding_beginsNeither (addTranche_beginsNeither fs u)
  | sealPlan => exact runningCommand_beginsNeither fun fs u => inBuilding_beginsNeither (sealPlan_beginsNeither fs u)
  | closePlan => exact runningCommand_beginsNeither closePlan_beginsNeither
  | readTranche => exact runningCommand_beginsNeither readTranche_beginsNeither
  | takeover => exact runningCommand_beginsNeither takeover_beginsNeither
  | home => exact runningCommand_beginsNeither homeTower_beginsNeither
  | mooringShift => exact runningCommand_beginsNeither mooringShift_beginsNeither
  | stop => exact runningCommand_beginsNeither stopTower_beginsNeither
  | halt => exact runningCommand_beginsNeither haltTower_beginsNeither
  | clearHalt => exact runningCommand_beginsNeither clearHalt_beginsNeither
  | withdraw => exact runningCommand_beginsNeither withdrawTower_beginsNeither
  | keep => exact runningCommand_beginsNeither keepAttended_beginsNeither
  | readBill => exact runningCommand_beginsNeither readBill_beginsNeither
  | readSummary => exact runningCommand_beginsNeither readSummary_beginsNeither
  -- interval ends, each under its own condition (log 6)
  | intervalEnd | windowEnd | calibrationComplete | pourOpen | pourClose | warmUpComplete =>
    exact .next (beginsNeither_guard (intervalEnd_beginsNeither s))
  -- events that act under one condition and change nothing without it
  | beltStallTimeout | wakeWindowEnd | sleepPeriodEnd | dustRepeat | secondTick | beaconTick | arbitrationLost
  | frameAbandoned | receiveError | peerTimeout | catchUpEnd | travelStall | moveHoldExpiry | spoutTimeout
  | attendanceLapse | settleExpiry => exact .next (beginsNeither_guard (by simp [beginsNeither]))
  -- inputs whose change is acted on after their stable value is set
  | filteredBeltPulse | homeMarkerEdge | proxSwitchActive | permitChange =>
    exact .next (beginsNeither_ite (by simp [beginsNeither]) (.refl s))
  | limitSwitchChange =>
    exact .next (beginsNeither_ite (beginsNeither_ite (.refl s) (by simp [beginsNeither])) (.refl s))
  -- the others
  | conversionEnd level => exact conversionEnd_beginsNeither level s
  | patternStep => exact patternStep_beginsNeither s
  | lineWindowEnd => exact lineWindowEnd_beginsNeither s
  | noteTick => exact noteTick_beginsNeither s
  | idleGap => exact .next (by simp [beginsNeither])
  | frameHeard h => exact frameHeard_beginsNeither h s
  | encoderEdge m => exact encoderEdge_beginsNeither m s
  | restTimeEnd => exact restTimeEnd_beginsNeither s

/-- R1: counting a millisecond moves the timers alone. -/
theorem tick_beginsNeither (s : State) : beginsNeither s (tick s) := by
  unfold tick countRunning
  split <;> exact .refl s

/-! ### START and ZERO SCALE (R159, R17) -/

theorem startAuto_of_calibrating {s : State} (fs : List Byte) (h : s.scale.calRunning = true) :
    startAuto fs s = (s, refuse .state) :=
  if_pos h

theorem startAuto_of_free {s : State} (fs : List Byte) (h : s.scale.calRunning = false) :
    startAuto fs s = ({ s with cycle := { s.cycle with auto := true } }, done []) :=
  if_neg (Bool.eq_false_iff.mp h)

/-- A START that finds the auto flag set changes nothing. -/
theorem auto_set_of_auto {s : State} (h : s.cycle.auto = true) :
    { s with cycle := { s.cycle with auto := true } } = s := by
  rw [← h]

/-- R189: START in a whole frame answers what its own rule does after the shifting out. -/
theorem exec_start_of_frames {rest : List Byte} {s t : State} {a : Answer} (h : frames [] rest)
    (hbody : afterRun (startAuto []) (shiftFrame (rest.length + 1) s) = (shiftFrame (rest.length + 1) t, a)) :
    exec (.start rest) s = .next (answered 22 rest a t) := by
  change Host.Outcome.next (hostCommand ..) = _
  rw [hostCommand_of_frames h rfl, hbody]
  rfl

/-- R159: automatic work begins with no calibration running only. -/
theorem startAuto_keeps_autoLaw (fs : List Byte) {s : State} (hs : AutoLaw s) : AutoLaw (startAuto fs s).1 := by
  cases hcal : s.scale.calRunning with
  | true => rwa [startAuto_of_calibrating fs hcal]
  | false =>
    rw [startAuto_of_free fs hcal]
    exact fun _ => hcal

theorem auto_of_zeroAllowed {s : State} (h : zeroAllowed s = true) : s.cycle.auto = false := by
  simp only [zeroAllowed, Bool.and_eq_true, Bool.not_eq_true'] at h
  tauto

/-- R17: a calibration begins with the auto flag clear only. -/
theorem zeroScale_keeps_autoLaw (fs : List Byte) {s : State} (hs : AutoLaw s) : AutoLaw (zeroScale fs s).1 := by
  unfold zeroScale
  split
  next hzero =>
    have hidle : s.cycle.auto = false := auto_of_zeroAllowed hzero
    exact fun hauto => absurd (hauto.symm.trans hidle) (by decide)
  next => exact hs

theorem runningCommand_keeps_autoLaw {code : Byte} {fits : List Byte → Bool} {rest : List Byte}
    {body : List Byte → State → State × Answer} {s : State} (hs : AutoLaw s)
    (h : ∀ fs {u}, AutoLaw u → AutoLaw (body fs u).1) :
    AutoLaw (hostCommand code fits rest (fun fs => afterRun (body fs)) s) := by
  have hshift : AutoLaw (shiftFrame (rest.length + 1) s) := hs.of_beginsNeither (shiftFrame_beginsNeither ..)
  obtain heq | ⟨fs, heq⟩ := hostCommand_cases code fits rest (fun fs => afterRun (body fs)) s <;> rw [heq]
  · exact hshift.of_beginsNeither (respond_beginsNeither ..)
  · refine AutoLaw.of_beginsNeither ?_ (respond_beginsNeither ..)
    unfold afterRun
    split
    next => exact h fs hshift
    next => exact hshift

/-! ### The law at every step -/

theorem exec_keeps_autoLaw {i : Instr} {s t : State} (hs : AutoLaw s) (h : exec i s = .next t) : AutoLaw t := by
  by_cases hstart : ∃ rest, i = .start rest
  · obtain ⟨rest, rfl⟩ := hstart
    rw [← Host.Outcome.next.inj h]
    exact runningCommand_keeps_autoLaw hs startAuto_keeps_autoLaw
  by_cases hzero : ∃ rest, i = .zeroScale rest
  · obtain ⟨rest, rfl⟩ := hzero
    rw [← Host.Outcome.next.inj h]
    exact runningCommand_keeps_autoLaw hs zeroScale_keeps_autoLaw
  exact hs.of_beginsNeither (exec_beginsNeither s i (not_exists.mp hstart) (not_exists.mp hzero) t h)

theorem step_keeps_autoLaw {s t : State} (hs : AutoLaw s) (h : step s = .next t) : AutoLaw t := by
  unfold step at h
  split at h
  next =>
    rw [← Host.Outcome.next.inj h]
    exact hs.of_beginsNeither (tick_beginsNeither s)
  next c rest _ => exact exec_keeps_autoLaw (s := { s with pending := rest }) hs h

end Sys2Proof.Machine

open Sys2Proof Sys2Proof.Machine

/-- Settles O45: START's rule is read off case by case; of all commands only START and ZERO SCALE begin one of the two
works, and each refuses while the other stands. -/
theorem startSetsAuto : Obligations.StartSetsAuto := by
  unfold Obligations.StartSetsAuto
  refine ⟨fun rest s hframe => ?start, fun s t => step_keeps_autoLaw⟩
  case start =>
    have hset : s.running = true → s.scale.calRunning = false →
        exec (.start rest) s =
          .next (answered 22 rest (done []) { s with cycle := { s.cycle with auto := true } }) := by
      intro hrun hfree
      refine exec_start_of_frames hframe ?_
      rw [afterRun_of_running (by simpa using hrun), startAuto_of_free [] (by simpa using hfree)]
      rfl
    refine ⟨fun hrun => ?early, fun hrun hcal => ?calibrating, hset, fun hrun hfree hauto => ?again⟩
    case early =>
      exact exec_start_of_frames hframe (afterRun_of_not_running (by simpa using hrun))
    case calibrating =>
      refine exec_start_of_frames hframe ?_
      rw [afterRun_of_running (by simpa using hrun), startAuto_of_calibrating [] (by simpa using hcal)]
    case again => rw [hset hrun hfree, auto_set_of_auto hauto]

end

section
/-! PROOF. READ BILL (R185): what it does to the bills and answers, the length of the pour entry (R198), the free slots
(section 10.1), and obligation O53. -/

namespace Sys2Proof.Machine

/-! ### A whole frame whose body is known -/

/-- R189: a command in a whole frame that fits it answers what its own rule does after the shifting out. -/
theorem hostCommand_eq_answered {code : Byte} {fits : List Byte → Bool} {fs rest : List Byte}
    {body : List Byte → State → State × Answer} {s t : State} {a : Answer} (h : frames fs rest) (hfits : fits fs = true)
    (hbody : body fs (shiftFrame (rest.length + 1) s) = (shiftFrame (rest.length + 1) t, a)) :
    hostCommand code fits rest body s = answered code rest a t := by
  rw [hostCommand_of_frames h hfits, hbody]
  rfl

theorem exec_readBill_of_frames {rest : List Byte} {s t : State} {a : Answer} (h : frames [] rest)
    (hbody : afterRun (readBill []) (shiftFrame (rest.length + 1) s) = (shiftFrame (rest.length + 1) t, a)) :
    exec (.readBill rest) s = .next (answered 28 rest a t) :=
  congrArg Host.Outcome.next (hostCommand_eq_answered h rfl hbody)

/-! ### The oldest bill (R185) -/

theorem readBill_of_empty {s : State} (fs : List Byte) (h : s.bills.stored = []) :
    readBill fs s = (s, refuse .billEmpty) := by
  simp only [readBill, h]

theorem readBill_of_cons {s : State} {b : Bill} {older : List Bill} (fs : List Byte) (h : s.bills.stored = b :: older) :
    readBill fs s =
      ({ s with bills := { s.bills with stored := older } }, done (billBytes b older.length)) := by
  simp only [readBill, h]

/-- The removal gives back one slot, as long as the stored bills and the reservation fit the 32 there are. -/
theorem freeSlots_of_removal {s : State} {b : Bill} {older : List Bill} (h : s.bills.stored = b :: older)
    (hfit : s.bills.stored.length + (if s.bills.reserved then 1 else 0) ≤ 32) :
    freeSlots { s with bills := { s.bills with stored := older } } = freeSlots s + 1 := by
  rw [h, List.length_cons] at hfit
  simp only [freeSlots, h, List.length_cons]
  omega

/-! ### The pour entry (R198) -/

theorem setBytes_length (n : Nat) (l : List Bool) : (setBytes n l).length = n := by
  rw [setBytes_eq_le_setNumber, le_length]

theorem billBytes_length (b : Bill) (still : Nat) : (billBytes b still).length = 34 := by
  simp only [billBytes, List.length_append, le_length, setBytes_length]

/-- The number of bills still stored is the entry's last byte. -/
theorem billBytes_drop (b : Bill) (still : Nat) : (billBytes b still).drop 33 = le 1 still := by
  refine List.drop_left' ?_
  simp only [List.length_append, le_length, setBytes_length]

theorem billBytes_isPourEntry (b : Bill) (still : Nat) : isPourEntry b still (billBytes b still) := by
  refine ⟨?_, billBytes_length b still⟩
  rw [billBytes, setBytes_eq_le_setNumber]

end Sys2Proof.Machine

open Sys2Proof Sys2Proof.Machine

/-- Settles O53: the running flag and the stored bills, which the shifting out leaves alone, decide the case; the entry's
layout and the free slot are facts of the bill and the log alone. -/
theorem billRead : Obligations.BillRead := by
  unfold Obligations.BillRead
  intro rest s hframe
  refine ⟨fun hrun => ?early, fun hrun hempty => ?empty, fun b older hrun hstored => ⟨?oldest, billBytes_length _ _,
    billBytes_isPourEntry _ _, billBytes_drop _ _, freeSlots_of_removal hstored⟩⟩
  case early => exact exec_readBill_of_frames hframe (afterRun_of_not_running (by simpa using hrun))
  case empty =>
    refine exec_readBill_of_frames hframe ?_
    rw [afterRun_of_running (by simpa using hrun), readBill_of_empty [] (by simpa using hempty)]
  case oldest =>
    refine exec_readBill_of_frames hframe ?_
    rw [afterRun_of_running (by simpa using hrun), readBill_of_cons [] (by simpa using hstored)]
    rfl

end
